-- ==== Sys2Proof/Word.lean ====
section
/-! DEFINITION. The widths of the spec's values (00_scope.md R10, R16): bytes, half-words, words and command words are
unsigned bit vectors. -/

namespace Sys2Proof

/-- A byte, 0..255 (00_scope.md R16). -/
abbrev Byte := BitVec 8

/-- A 16-bit value: a CRC, an object index, a status word. -/
abbrev Half := BitVec 16

/-- A 32-bit value: write-frame data, a read-port register. -/
abbrev Word := BitVec 32

/-- A 64-bit command word (30_encoding.md R80). -/
abbrev CommandWord := BitVec 64

end Sys2Proof
end

