-- ==== Sys2Proof/Config.lean ====
section
/-! DEFINITION. The implementation parameters of 00_scope.md R8. RXCAP, the one parameter that a rule of the block reads,
is the field `State.rxcap`, so that statements hold for every value of it; its default stands here. -/

namespace Sys2Proof.Config

/-- `RXCAP`'s default (00_scope.md R8). -/
abbrev rxcapDefault : BitVec 8 := 32

/-- The values R8 allows for `RXCAP`: 7 <= RXCAP <= 255. -/
def rxcapLegal (n : BitVec 8) : Bool := 7 ≤ n.toNat

/-- `TIMEOUT_MS`, the per-phase deadline in milliseconds (00_scope.md R8). -/
abbrev timeoutMs : Nat := 1000

/-- `F_CLK`, the RTL clock, left open by R8 and read only by an RTL deadline counter. -/
opaque fClk : Nat

/-- `BLOCK_BASE`, the platform placement of the ports, left open by R8; no rule reads it (20_memory.md R69). -/
opaque blockBase : Nat

/-- The clock cycles an RTL block loads into DLCNT (10_state.md R37); no step of the model reads it. -/
def deadlineCycles (clockHz : Nat) : Nat := timeoutMs * clockHz / 1000

/-- The size of the frame buffer (00_scope.md R8). -/
abbrev frameBufferBytes : Nat := 14

/-- The CRC polynomial, the x^16 term implicit (00_scope.md R8; 40_crc_engine.md R113). -/
abbrev crcPoly : Half := 0x1021

/-- The CRC initial value (00_scope.md R8; 40_crc_engine.md R113). -/
abbrev crcInit : Half := 0x0000

/-- The fixed device address (00_scope.md R8; 41_frame_builder.md R134). -/
abbrev nodeId : Byte := 0x02

/-- The ack marker 'O' (00_scope.md R8; 30_encoding.md R97). -/
abbrev ackMarker : Byte := 0x4F

/-- The nack marker 'F' (00_scope.md R8; 30_encoding.md R97). -/
abbrev nackMarker : Byte := 0x46

/-- The status mask literal (00_scope.md R8; 42_transaction.md R163). -/
abbrev statusMask : Half := 0x417F

end Sys2Proof.Config
end

