-- ==== Sys2Proof/Syntax.lean ====
section
/-! DEFINITION. The commands of command set v1 and the two wire rows of spec/opcode_table.json (`Instr`), the raw words the
decoder reads (`PortWord`, `CommandFields`), the reasons it rejects one (`DecodeError`), and the assembler's source lines
(`AsmLine`). -/

namespace Sys2Proof

/-- One constructor per row of spec/opcode_table.json. The operands are the fields of 30_encoding.md R84, at their width. -/
inductive Instr where
  /-- `WRBUF pos, val` (41_frame_builder.md R137). -/
  | wrbuf (pos val : Byte)
  /-- `CRC16 n` (40_crc_engine.md R119). -/
  | crc16 (n : Byte)
  /-- `BUILDR index, subindex` (41_frame_builder.md R130). -/
  | buildr (index : Half) (subindex : Byte)
  /-- `BUILDW index, data` (41_frame_builder.md R132). -/
  | buildw (index : Half) (data : Word)
  /-- `ADV` (42_transaction.md R150). -/
  | adv
  /-- `DEC status` (43_status_decoder.md R200). -/
  | dec (status : Half)
  /-- The wire row READ_FRAME: bytes 0 and 1 of a read-frame on the wire (30_encoding.md R90, R94). Not a command. -/
  | readFrame
  /-- The wire row WRITE_FRAME: bytes 0 and 1 of a write-frame on the wire (30_encoding.md R91, R94). Not a command. -/
  | writeFrame
deriving DecidableEq, Repr

/-- A word of the opcode table at the port it stands on: a 64-bit command word on the command port (format CMD64, R80), or
the first 16-bit word `byte0, byte1` of a frame on the wire (format WIRE16, R94). -/
inductive PortWord where
  | command (c : CommandWord)
  | wire (w : Half)
deriving DecidableEq, Repr

/-- The five fields of a command word (30_encoding.md R80). -/
structure CommandFields where
  op : BitVec 4
  z : BitVec 4
  b : Byte
  h : Half
  d : Word
deriving DecidableEq, Repr

/-- Why a word encodes no instruction. The first three are R85's reserved encodings, all of which raise ILLEGAL. -/
inductive DecodeError where
  /-- `op` is 0x0 or 0x7..0xF. -/
  | reservedOpcode
  /-- `z` is not 0. -/
  | reservedZ
  /-- a field R83 marks "0" is not 0. -/
  | reservedField
  /-- a wire word that starts neither frame shape (R94). -/
  | notAFrameHeader
deriving DecidableEq, Repr

/-- One assembler line (30_encoding.md R87), its numeric operands as written: an operand may be negative or too large, and
`AsmLine.wellFormed` says which an assembler accepts. -/
inductive AsmLine where
  | wrbuf (pos val : Int)
  | crc16 (n : Int)
  | buildr (index subindex : Int)
  | buildw (index data : Int)
  | adv
  | dec (status : Int)
deriving DecidableEq, Repr

end Sys2Proof
end

