-- ==== Sys2Proof/WellFormed.lean ====
section
/-! DEFINITION. The well-formedness checks the spec gives: of a command word (30_encoding.md R83), of an assembler line
(R87), and the operand ranges that a command needs to run (R83's "range"). Every term of `Instr` has its fields at their
widths and is well-formed by its type. -/

namespace Sys2Proof

/-- R83: "A command is well-formed when `z = 0` and every field marked "0" below is zero"; R85: its opcode is not reserved. -/
def CommandFields.wellFormed (f : CommandFields) : Bool :=
  f.z == 0 &&
    match f.op with
    | 0x1#4 => f.h.extractLsb' 8 8 == 0 && f.d == 0
    | 0x2#4 => f.h == 0 && f.d == 0
    | 0x3#4 => f.d == 0
    | 0x4#4 => f.b == 0
    | 0x5#4 => f.b == 0 && f.h == 0 && f.d == 0
    | 0x6#4 => f.b == 0 && f.d == 0
    | _ => false

/-- R83: the operand values in "range", with which WRBUF and CRC16 do not raise RANGE. -/
def Instr.operandsInRange : Instr → Bool
  | .wrbuf pos _ => pos.toNat ≤ 13
  | .crc16 n => n.toNat ≤ 7
  | .buildr _ _ | .buildw _ _ | .adv | .dec _ | .readFrame | .writeFrame => true

/-- An operand in an inclusive range. -/
def inRange (lo hi v : Int) : Bool := lo ≤ v && v ≤ hi

/-- R87's operand ranges, outside which an assembler must refuse the line. -/
def AsmLine.wellFormed : AsmLine → Bool
  | .wrbuf pos val => inRange 0 255 pos && inRange 0 255 val
  | .crc16 n => inRange 0 255 n
  | .buildr index subindex => inRange (-32768) 0xFFFF index && inRange 0 255 subindex
  | .buildw index data => inRange (-32768) 0xFFFF index && inRange (-2147483648) 0xFFFFFFFF data
  | .adv => true
  | .dec status => inRange 0 0xFFFF status

end Sys2Proof
end

