-- ==== Sys2Proof/Decode.lean ====
section
/-! DEFINITION. The decoder and the encoder of 30_encoding.md Part A, the wire headers of R94, and the reading of the opcode
table's words. Command words are delivered whole (R80) and have no byte layout (log entry 10). -/

namespace Sys2Proof

/-- R81: field extraction. -/
def fieldsOf (c : CommandWord) : CommandFields :=
  { op := c.extractLsb' 0 4
    z := c.extractLsb' 4 4
    b := c.extractLsb' 8 8
    h := c.extractLsb' 16 16
    d := c.extractLsb' 32 32 }

/-- R80: the word with these fields. -/
def wordOf (f : CommandFields) : CommandWord := f.d ++ f.h ++ f.b ++ f.z ++ f.op

/-- R94: the first 16-bit word of a read-frame, byte 0 in bits [15:8]. -/
abbrev readFrameHeader : Half := 0x1001

/-- R94: the first 16-bit word of a write-frame, byte 0 in bits [15:8]. -/
abbrev writeFrameHeader : Half := 0x1103

/-- A command's operands, once `z` is known to be 0: R83's reserved-zero fields are checked and R84 assembles the operands. -/
def decodeOperands (f : CommandFields) : Except DecodeError Instr :=
  match f.op with
  | 0x1#4 =>
    if f.h.extractLsb' 8 8 = 0 ∧ f.d = 0 then .ok (.wrbuf f.b (f.h.extractLsb' 0 8)) else .error .reservedField
  | 0x2#4 => if f.h = 0 ∧ f.d = 0 then .ok (.crc16 f.b) else .error .reservedField
  | 0x3#4 => if f.d = 0 then .ok (.buildr f.h f.b) else .error .reservedField
  | 0x4#4 => if f.b = 0 then .ok (.buildw f.h f.d) else .error .reservedField
  | 0x5#4 => if f.b = 0 ∧ f.h = 0 ∧ f.d = 0 then .ok .adv else .error .reservedField
  | 0x6#4 => if f.b = 0 ∧ f.d = 0 then .ok (.dec f.h) else .error .reservedField
  | _ => .error .reservedOpcode

/-- R85, R86: a command word's instruction, or the reason it is reserved. -/
def decodeCommand (c : CommandWord) : Except DecodeError Instr :=
  let f := fieldsOf c
  if f.z = 0 then decodeOperands f else .error .reservedZ

/-- R94: the frame shape that a first wire word starts. -/
def decodeWire (w : Half) : Except DecodeError Instr :=
  if w = readFrameHeader then .ok .readFrame
  else if w = writeFrameHeader then .ok .writeFrame
  else .error .notAFrameHeader

/-- The decoder: total on any word of either port. -/
def decode : PortWord → Except DecodeError Instr
  | .command c => decodeCommand c
  | .wire w => decodeWire w

/-- The encoder, from the tables of R83, R84 and R94. -/
def encode : Instr → PortWord
  | .wrbuf pos val => .command (wordOf { op := 0x1, z := 0, b := pos, h := (0#8 ++ val : Half), d := 0 })
  | .crc16 n => .command (wordOf { op := 0x2, z := 0, b := n, h := 0, d := 0 })
  | .buildr index subindex => .command (wordOf { op := 0x3, z := 0, b := subindex, h := index, d := 0 })
  | .buildw index data => .command (wordOf { op := 0x4, z := 0, b := 0, h := index, d := data })
  | .adv => .command (wordOf { op := 0x5, z := 0, b := 0, h := 0, d := 0 })
  | .dec status => .command (wordOf { op := 0x6, z := 0, b := 0, h := status, d := 0 })
  | .readFrame => .wire readFrameHeader
  | .writeFrame => .wire writeFrameHeader

/-- The match and mask values of R83's table, by mnemonic; none for a wire row, which is no command. -/
def commandRow : Instr → Option (CommandWord × CommandWord)
  | .wrbuf _ _ => some (0x0000000000000001, 0xFFFFFFFFFF0000FF)
  | .crc16 _ => some (0x0000000000000002, 0xFFFFFFFFFFFF00FF)
  | .buildr _ _ => some (0x0000000000000003, 0xFFFFFFFF000000FF)
  | .buildw _ _ => some (0x0000000000000004, 0x000000000000FFFF)
  | .adv => some (0x0000000000000005, 0xFFFFFFFFFFFFFFFF)
  | .dec _ => some (0x0000000000000006, 0xFFFFFFFF0000FFFF)
  | .readFrame | .writeFrame => none

/-- Where a word of the opcode table stands: the two 16-bit wire rows on the wire, every other word on the command port, its
bits above `nbits` zero (log entry 10). -/
def tablePortWord (nbits w : Nat) : PortWord :=
  if nbits = 16 ∧ (w = readFrameHeader.toNat ∨ w = writeFrameHeader.toNat) then .wire (BitVec.ofNat 16 w)
  else .command (BitVec.ofNat 64 w)

/-- The instruction the decoder reads from an opcode-table word of `nbits` bits; none where it rejects it. -/
def decodeTableWord (nbits w : Nat) : Option Instr :=
  match decode (tablePortWord nbits w) with
  | .ok i => some i
  | .error _ => none

/-- The opcode-table form of an instruction: how many bits the table gives its row, and the word as a number. -/
def tableWordOf (i : Instr) : Nat × Nat :=
  match encode i with
  | .command c => (64, c.toNat)
  | .wire w => (16, w.toNat)

end Sys2Proof
end

