-- ==== Sys2Proof/Machine/State.lean ====
section
/-! DEFINITION. The state the spec gives the block (10_state.md R20), the transport's two queues a model must hold (R41), the
RXCAP parameter, and the list of agents' moves still to come; the reasons a step stops; the state after reset. -/

namespace Sys2Proof.Machine

/-- FKIND (10_state.md R25). The value 3 is never written (log entry 9). -/
inductive FKind where
  | none | read | write
deriving DecidableEq, Repr

/-- OUTCOME (10_state.md R31). Values 5 to 7 are never written (log entry 9). -/
inductive TxnOutcome where
  | idle | processing | success | failed | timedOut
deriving DecidableEq, Repr

/-- DIAG (10_state.md R33). Codes 7 to 15 are never written (log entry 9). -/
inductive Diag where
  | none | badAck | empty | decode | timeoutP1 | timeoutP2 | timeoutP3
deriving DecidableEq, Repr

/-- CERR, the status of the most recent command (60_exceptions.md R221). Codes 5 to 7 are never written (log entry 9). -/
inductive CmdStatus where
  | ok | illegal | range | busy | noframe
deriving DecidableEq, Repr

/-- One move of one of the block's agents (00_scope.md R7). -/
inductive Input where
  /-- Host: a command word on the command port (30_encoding.md R80, R89). -/
  | command (c : CommandWord)
  /-- Transport: an arrival of the non-empty byte sequence `first :: rest` (60_exceptions.md R230). -/
  | arrival (first : Byte) (rest : List Byte)
  /-- Time: the deadline expires (60_exceptions.md R233). -/
  | expiry
  /-- Reset: the block's reset is asserted (70_reset_and_hazards.md R250). -/
  | reset
deriving DecidableEq, Repr

/-- The state of the block, of its transport, and the agents' moves still to come. -/
structure State where
  /-- RXCAP, this instance's receive-buffer size (00_scope.md R8): no step writes it (log entry 3). -/
  rxcap : BitVec 8
  /-- FB[0..13], the frame buffer (10_state.md R23). -/
  fb : Vector Byte 14
  /-- FLEN, the frame's length (R24). -/
  flen : BitVec 4
  /-- FKIND, the transaction shape (R25). -/
  fkind : FKind
  /-- CRCR, the CRC engine's result (R26). -/
  crcr : Half
  /-- STEP, the transaction step index (R30). -/
  stepIdx : BitVec 6
  /-- OUTCOME (R31). -/
  outcome : TxnOutcome
  /-- DIAG, the diagnostic code (R33). -/
  diag : Diag
  /-- RESULT, the decoded word of a read-transaction (R29). -/
  result : Half
  /-- DR, the data-ready latch (R35). -/
  dr : Bool
  /-- DLARM, a deadline is armed (R36). -/
  dlarm : Bool
  /-- DLEXP, the armed deadline has elapsed (R36). -/
  dlexp : Bool
  /-- RXB[0..RXCAP-1], the receive buffer (R27). -/
  rxb : List Byte
  /-- RXLEN, the number of valid bytes of RXB (R27). -/
  rxlen : BitVec 8
  /-- RXOVF, bytes beyond RXCAP were dropped (R28). -/
  rxovf : Bool
  /-- DECIN, the word given to the last DEC (R38). -/
  decin : Half
  /-- DECOUT, its decoded next-step code (R38). -/
  decout : BitVec 4
  /-- CERR, the status of the last command (R39). -/
  cerr : CmdStatus
  /-- CERRS, sticky: some command since reset had CERR != 0 (R39). -/
  cerrs : Bool
  /-- CHRX, the transport's receive queue, in arrival order (R41). -/
  chrx : List Byte
  /-- TXLOG, every byte the block has sent, in send order (R41). -/
  txlog : List Byte
  /-- The agents' moves still to come, oldest first: the model's own field (log entry 1). -/
  inputs : List Input
deriving DecidableEq, Repr

/-- Why a step stops the machine. -/
inductive Fault where
  /-- ADV at a STEP value outside 0..10, 20, 30, 40 (42_transaction.md R178). Raised by ADV. Safe: no rule reaches it. -/
  | unreachableStep
  /-- A sending ADV step (4, 7 or 10) that finds an FLEN other than 10 and 14 (93_implementation_defined.md I17). Raised by
  ADV. Safe: no rule reaches it (log entry 8). -/
  | unreachableFrameLength
deriving DecidableEq, Repr

/-- Why a step has no meaning. No word of this machine is refused: the constructor is the host's, unused. Safe. -/
inductive Refusal where
  | notModelled (mnemonic : String)
deriving DecidableEq, Repr

/-- The machine right after reset (10_state.md R20; 70_reset_and_hazards.md R250), RXCAP at its default. CHRX and TXLOG,
which a reset leaves alone, start empty (log entry 6). -/
def State.reset : State :=
  { rxcap := Config.rxcapDefault
    fb := Vector.replicate 14 0
    flen := 0
    fkind := .none
    crcr := 0
    stepIdx := 0
    outcome := .idle
    diag := .none
    result := 0
    dr := false
    dlarm := false
    dlexp := false
    rxb := List.replicate 32 0
    rxlen := 0
    rxovf := false
    decin := 0
    decout := 0
    cerr := .ok
    cerrs := false
    chrx := []
    txlog := []
    inputs := [] }

end Sys2Proof.Machine
end

