-- ==== Sys2Proof/Machine/Operands.lean ====
section
/-! DEFINITION. Byte selection and packing: the halves and bytes of an operand (00_scope.md R12), the frame buffer's slices
(R11; 42_transaction.md R152) and the read port's little-endian packing (20_memory.md R64). -/

namespace Sys2Proof.Machine

/-- `lo8(v) = v[7:0]` (00_scope.md R12). -/
def lo8 (v : Half) : Byte := v.extractLsb' 0 8

/-- `hi8(v) = v[15:8]` (00_scope.md R12). -/
def hi8 (v : Half) : Byte := v.extractLsb' 8 8

/-- Byte `i` of a 32-bit operand, byte 0 the least significant: `data[8i+7:8i]` (30_encoding.md R91). -/
def dataByte (v : Word) (i : Nat) : Byte := v.extractLsb' (8 * i) 8

/-- `zext_16` (00_scope.md R12, R16). -/
def zext16 (b : Byte) : Half := b.zeroExtend 16

/-- The 16-bit word of two bytes, the first in bits [15:8] (40_crc_engine.md R111). -/
def bigEndian16 (first second : Byte) : Half := first ++ second

/-- Four bytes as one read-port register, the first in bits [7:0] (20_memory.md R64). -/
def littleEndian32 (b0 b1 b2 b3 : Byte) : Word := b3 ++ b2 ++ b1 ++ b0

/-- Byte `i` of a byte buffer. A byte past its end reads 0x00, which only the read port's padding uses (10_state.md R51,
R52; log entry 17). -/
def byteAt (buf : List Byte) (i : Nat) : Byte := buf.getD i 0

/-- `FB[i]` (00_scope.md R11). -/
def State.fbAt (s : State) (i : Nat) : Byte := byteAt s.fb.toList i

/-- `FB[a..b]`, both ends included (00_scope.md R11). -/
def State.fbSlice (s : State) (a b : Nat) : List Byte := (s.fb.toList.drop a).take (b + 1 - a)

/-- `N = FLEN`, 10 for READ and 14 for WRITE (42_transaction.md R152); none for a length no rule writes (10_state.md R24). -/
def State.frameLength? (s : State) : Option Nat :=
  if s.flen = 10 ∨ s.flen = 14 then some s.flen.toNat else none

end Sys2Proof.Machine
end

