-- ==== Sys2Proof/Machine/Flags.lean ====
section
/-! DEFINITION. The flags of 10_state.md R40 and the command status: each named change of DR, DLARM, DLEXP, CERR and CERRS. -/

namespace Sys2Proof.Machine

/-- R39: every command writes CERR and performs `CERRS <- CERRS | (CERR != 0)`. -/
def State.setStatus (code : CmdStatus) (s : State) : State :=
  { s with cerr := code, cerrs := s.cerrs || code != .ok }

/-- A command is accepted: `CERR <- 0` (60_exceptions.md R221). -/
def State.accept (s : State) : State := s.setStatus .ok

/-- `Arm()`: `DLARM <- 1; DLEXP <- 0` (10_state.md R36). -/
def State.arm (s : State) : State := { s with dlarm := true, dlexp := false }

/-- The terminal steps' `DLARM <- 0; DLEXP <- 0` (10_state.md R36). -/
def State.disarm (s : State) : State := { s with dlarm := false, dlexp := false }

/-- The expiry event (60_exceptions.md R233): enabled only when DLARM = 1 and DLEXP = 0. A move listed where it is not
enabled does nothing (log entry 5). -/
def State.expire (s : State) : State :=
  if s.dlarm && !s.dlexp then { s with dlexp := true } else s

end Sys2Proof.Machine
end

