-- ==== Sys2Proof/Machine/Ops.lean ====
section
/-! DEFINITION. The operations the commands and events share: command errors and the terminal steps (60_exceptions.md R220,
R227), the transport primitives of 00_scope.md R13, the helper actions of 42_transaction.md R168 to R170, the arrival event
and the block reset. -/

namespace Sys2Proof.Machine

/-- What a meaning answers. -/
abbrev Result := Host.Outcome State Fault Refusal

/-- `raise CmdError(code)` (60_exceptions.md R220): `CERR <- code`, `CERRS <- 1`, and no other effect. The one way a command
error is taken. -/
def State.raiseCmdError (code : CmdStatus) (s : State) : State := { s with cerr := code, cerrs := true }

/-- The effect of a command word that encodes no command (30_encoding.md R85): ILLEGAL, whatever the reason. -/
def State.illegalCommand (_reason : DecodeError) (s : State) : State := s.raiseCmdError .illegal

/-- The "return" of a transaction, its terminal step (60_exceptions.md R227; 42_transaction.md R165 to R167): the outcome is
recorded, STEP is 0 and the deadline is disarmed. -/
def State.finish (outcome : TxnOutcome) (s : State) : State :=
  { s with outcome := outcome, stepIdx := 0 }.disarm

/-- `step <- k` (00_scope.md R13). -/
def State.goto (k : BitVec 6) (s : State) : State := { s with stepIdx := k }

/-- A failed check writes DIAG and jumps to a terminal step (60_exceptions.md R225). -/
def State.jumpWith (code : Diag) (k : BitVec 6) (s : State) : State := { s with diag := code, stepIdx := k }

/-- `Send(seq)` (20_memory.md R67): the whole sequence is appended to TXLOG, in order. -/
def State.send (bytes : List Byte) (s : State) : State := { s with txlog := s.txlog ++ bytes }

/-- `DrainStore()` (42_transaction.md R169): CHRX is emptied into RXB, bytes past RXCAP are dropped, DR is cleared. -/
def State.drainStore (s : State) : State :=
  { s with
    chrx := []
    rxb := (List.range s.rxcap.toNat).map (fun i => if i < s.chrx.length then byteAt s.chrx i else 0)
    rxlen := BitVec.ofNat 8 (min s.chrx.length s.rxcap.toNat)
    rxovf := decide (s.rxcap.toNat < s.chrx.length)
    dr := false }

/-- `DrainDiscard()` (42_transaction.md R170): CHRX is emptied, its bytes dropped, RXB zeroed, DR cleared. -/
def State.drainDiscard (s : State) : State :=
  { s with
    chrx := []
    rxb := List.replicate s.rxcap.toNat 0
    rxlen := 0
    rxovf := false
    dr := false }

/-- `Poll(next, code)` (42_transaction.md R168): data-ready wins over the deadline; with neither nothing changes. -/
def State.poll (next : BitVec 6) (code : Diag) (s : State) : State :=
  if s.dr then s.goto next
  else if s.dlexp then s.jumpWith code 40
  else s

/-- The arrival event (60_exceptions.md R230): `CHRX <- CHRX ++ bs; DR <- 1`. -/
def State.arrive (first : Byte) (rest : List Byte) (s : State) : State :=
  { s with chrx := s.chrx ++ first :: rest, dr := true }

/-- The reset step (70_reset_and_hazards.md R250): every block element takes its reset value; CHRX and TXLOG belong to the
transport and stay, and so do RXCAP and the moves to come. -/
def State.blockReset (s : State) : State :=
  { State.reset with
    rxcap := s.rxcap
    rxb := List.replicate s.rxcap.toNat 0
    chrx := s.chrx
    txlog := s.txlog
    inputs := s.inputs }

/-- The move that puts an opcode-table word before the block: a command word on the command port, a wire word as its two
arriving bytes, byte 0 from bits [15:8] (log entry 4). -/
def Input.ofPortWord : PortWord → Input
  | .command c => .command c
  | .wire w => .arrival (hi8 w) [lo8 w]

end Sys2Proof.Machine
end

