-- ==== Sys2Proof/Machine/Crc.lean ====
section
/-! DEFINITION. The checksum engine: the CRC-16 function (40_crc_engine.md R110 to R113) and the CRC16 command (R119). -/

namespace Sys2Proof.Machine

/-- One bit of R110's loop: test the top bit, shift left, OR in the data bit, XOR the polynomial if the top bit was set. -/
def crcBit (r : Half) (bit : Bool) : Half :=
  let shifted := r <<< 1
  let taken := if bit then shifted ||| 1 else shifted
  if r.msb then taken ^^^ Config.crcPoly else taken

/-- R112: the bits of a word, bit 15 first and bit 0 last. -/
def wordBits (w : Half) : List Bool := (List.range 16).map fun k => w.getLsbD (15 - k)

/-- R111: word `i` of a byte buffer, its first byte in bits [15:8]. -/
def crcWordAt (buf : List Byte) (i : Nat) : Half := bigEndian16 (byteAt buf (2 * i)) (byteAt buf (2 * i + 1))

/-- R112: the bit stream of the first `n` words, words in increasing order. -/
def crcBits (buf : List Byte) (n : Nat) : List Bool := (List.range n).flatMap fun i => wordBits (crcWordAt buf i)

/-- `CRC16(buf, n)` (R110), for a buffer of at least `2n` bytes. -/
def crc16 (buf : List Byte) (n : Nat) : Half := (crcBits buf n).foldl crcBit Config.crcInit

/-- `CRC16 n` (R119). It only reads FB, so it is accepted whatever STEP is. -/
def execCrc16 (n : Byte) (s : State) : Result :=
  if 7 < n.toNat then .next (s.raiseCmdError .range)
  else .next { s with crcr := crc16 s.fb.toList n.toNat }.accept

end Sys2Proof.Machine
end

