-- ==== Sys2Proof/Machine/FrameBuilder.lean ====
section
/-! DEFINITION. The frame builder: the two frame layouts (30_encoding.md R90, R91) and the commands BUILDR, BUILDW and WRBUF
(41_frame_builder.md R131, R133, R137). -/

namespace Sys2Proof.Machine

/-- Bytes 0..5 of a read-frame (30_encoding.md R90). -/
def readFrameHead (index : Half) (subindex : Byte) : List Byte :=
  [0x10, 0x01, lo8 index, hi8 index, subindex, Config.nodeId]

/-- R90: the checksum of a read-frame, over bytes 0..7 as 4 words with the CRC field zero (90_conflicts.md C1). -/
def readFrameCrc (index : Half) (subindex : Byte) : Half := crc16 (readFrameHead index subindex ++ [0x00, 0x00]) 4

/-- FB[0..13] after BUILDR (41_frame_builder.md R131): the 10-byte read-frame, bytes 10..13 zero. -/
def readFrameBytes (index : Half) (subindex : Byte) : Vector Byte 14 :=
  let crc := readFrameCrc index subindex
  #v[0x10, 0x01, lo8 index, hi8 index, subindex, Config.nodeId, lo8 crc, hi8 crc,
    Config.ackMarker, Config.nackMarker, 0x00, 0x00, 0x00, 0x00]

/-- Bytes 0..9 of a write-frame (30_encoding.md R91). -/
def writeFrameHead (index : Half) (data : Word) : List Byte :=
  [0x11, 0x03, lo8 index, hi8 index, 0x00, Config.nodeId,
    dataByte data 0, dataByte data 1, dataByte data 2, dataByte data 3]

/-- R91: the checksum of a write-frame, over bytes 0..11 as 6 words with the CRC field zero (90_conflicts.md C1). -/
def writeFrameCrc (index : Half) (data : Word) : Half := crc16 (writeFrameHead index data ++ [0x00, 0x00]) 6

/-- FB[0..13] after BUILDW (41_frame_builder.md R133): the 14-byte write-frame. -/
def writeFrameBytes (index : Half) (data : Word) : Vector Byte 14 :=
  let crc := writeFrameCrc index data
  #v[0x11, 0x03, lo8 index, hi8 index, 0x00, Config.nodeId,
    dataByte data 0, dataByte data 1, dataByte data 2, dataByte data 3, lo8 crc, hi8 crc,
    Config.ackMarker, Config.nackMarker]

/-- What both builders do with their frame (R131, R133, R136): the frame lands in FB, its shape, length and checksum are
recorded, and a new transaction record starts. -/
def State.loadFrame (bytes : Vector Byte 14) (length : BitVec 4) (kind : FKind) (crc : Half) (s : State) : State :=
  { s with fb := bytes, flen := length, fkind := kind, crcr := crc, outcome := .idle, diag := .none }

/-- R135: a command that writes FB raises BUSY while a transaction is in progress (STEP != 0). -/
def State.unlessBusy (s : State) (accepted : State) : Result :=
  if s.stepIdx ≠ 0 then .next (s.raiseCmdError .busy) else .next accepted.accept

/-- `BUILDR index, subindex` (R131). -/
def execBuildr (index : Half) (subindex : Byte) (s : State) : Result :=
  s.unlessBusy (s.loadFrame (readFrameBytes index subindex) 10 .read (readFrameCrc index subindex))

/-- `BUILDW index, data` (R133). -/
def execBuildw (index : Half) (data : Word) (s : State) : Result :=
  s.unlessBusy (s.loadFrame (writeFrameBytes index data) 14 .write (writeFrameCrc index data))

/-- `WRBUF pos, val` (R137): RANGE before BUSY (60_exceptions.md R222). -/
def execWrbuf (pos val : Byte) (s : State) : Result :=
  if 13 < pos.toNat then .next (s.raiseCmdError .range)
  else s.unlessBusy { s with fb := s.fb.setIfInBounds pos.toNat val }

end Sys2Proof.Machine
end

