-- ==== Sys2Proof/Machine/StatusDecoder.lean ====
section
/-! DEFINITION. The status-word decoder: the table (43_status_decoder.md R201) and the DEC command (R200). -/

namespace Sys2Proof.Machine

/-- `DecodeStatus(s)` (R201): an exact 16-bit compare (R204); an unlisted word gives 1 (R203). -/
def decodeStatus (status : Half) : BitVec 4 :=
  if status = 0x0140 then 2
  else if status = 0x0121 then 3
  else if status = 0x0123 then 3
  else if status = 0x0137 then 4
  else if status = 0x0117 then 7
  else if status = 0x0108 then 8
  else 1

/-- `DEC status` (R200), accepted at every STEP. -/
def execDec (status : Half) (s : State) : Result :=
  .next { s with decin := status, decout := decodeStatus status }.accept

end Sys2Proof.Machine
end

