-- ==== Sys2Proof/Machine/Transaction.lean ====
section
/-! DEFINITION. The transaction controller: one definition per step of 42_transaction.md R153 to R167, and the ADV command
(R150), which performs the step numbered by STEP. -/

namespace Sys2Proof.Machine

/-- Step 0, start (R153). -/
def State.stepStart (s : State) : State :=
  { s with outcome := .processing, diag := .none, result := 0 }.goto 1

/-- Step 1, send the opcode (R154). -/
def State.stepSendOpcode (s : State) : State := ((s.send [s.fbAt 0]).arm).goto 2

/-- Step 2, wait for the response to the opcode (R155). -/
def State.stepPollOpcode (s : State) : State := s.poll 3 .timeoutP1

/-- Step 3, discard the response to the opcode (R156). -/
def State.stepDiscard (s : State) : State := s.drainDiscard.goto 4

/-- Step 4, send the body FB[1..N-3] (R157, R152). -/
def State.stepSendBody (length : Nat) (s : State) : State := ((s.send (s.fbSlice 1 (length - 3))).arm).goto 5

/-- Step 5, wait for the response to the body (R158). -/
def State.stepPollBody (s : State) : State := s.poll 6 .timeoutP2

/-- Step 6, validate the acknowledgement (R159): only the first drained byte is checked. -/
def State.stepCheckAck (s : State) : State :=
  let t := s.drainStore
  if t.rxlen = 0 then t.jumpWith .empty 30
  else if byteAt t.rxb 0 = Config.ackMarker then t.goto 7
  else t.jumpWith .badAck 30

/-- Step 7, send the acknowledgement marker FB[A], A = N-2 (R160, R152). -/
def State.stepSendAck (length : Nat) (s : State) : State := ((s.send [s.fbAt (length - 2)]).arm).goto 8

/-- Step 8, wait for the device's data (R161). -/
def State.stepPollData (s : State) : State := s.poll 9 .timeoutP3

/-- The result word of two response bytes (R163): the literal grouping, bytes zero-extended (D35). -/
def resultWord (byte5 byte6 : Byte) : Half := (zext16 byte6 <<< 8) + (zext16 byte5 &&& Config.statusMask)

/-- Step 9 of a write-transaction (R162): the drained bytes are kept and not checked. -/
def State.stepTakeWrite (s : State) : State := s.drainStore.goto 10

/-- Step 9 of a read-transaction (R163): bytes 5 and 6 of this drain are decoded, or the decode fails. -/
def State.stepTakeRead (s : State) : State :=
  let t := s.drainStore
  if 7 ≤ t.rxlen.toNat then { t with result := resultWord (byteAt t.rxb 5) (byteAt t.rxb 6) }.goto 10
  else t.jumpWith .decode 30

/-- Step 10, final acknowledgement (R164): nothing is armed and nothing is waited for. -/
def State.stepFinalAck (length : Nat) (s : State) : State := (s.send [s.fbAt (length - 2)]).goto 20

/-- A step that needs the frame's length N. -/
def State.withFrameLength (act : Nat → State → State) (s : State) : Result :=
  match s.frameLength? with
  | some length => .next (act length s).accept
  | none => .fault .unreachableFrameLength

/-- `perform step STEP` (R150, R151): exactly one step, chosen by STEP and FKIND; a STEP no rule reaches is a fault (R178). -/
def State.performStep (s : State) : Result :=
  match s.stepIdx with
  | 0#6 => .next s.stepStart.accept
  | 1#6 => .next s.stepSendOpcode.accept
  | 2#6 => .next s.stepPollOpcode.accept
  | 3#6 => .next s.stepDiscard.accept
  | 4#6 => s.withFrameLength State.stepSendBody
  | 5#6 => .next s.stepPollBody.accept
  | 6#6 => .next s.stepCheckAck.accept
  | 7#6 => s.withFrameLength State.stepSendAck
  | 8#6 => .next s.stepPollData.accept
  | 9#6 => .next (if s.fkind = .read then s.stepTakeRead else s.stepTakeWrite).accept
  | 10#6 => s.withFrameLength State.stepFinalAck
  | 20#6 => .next (s.finish .success).accept
  | 30#6 => .next (s.finish .failed).accept
  | 40#6 => .next (s.finish .timedOut).accept
  | _ => .fault .unreachableStep

/-- `ADV` (R150): NOFRAME before any builder since reset, else one step. -/
def execAdv (s : State) : Result :=
  if s.fkind = .none then .next (s.raiseCmdError .noframe) else s.performStep

end Sys2Proof.Machine
end

