-- ==== Sys2Proof/Machine/Wire.lean ====
section
/-! DEFINITION. The two wire rows of the opcode table. They are no commands ("Not a command", opcode_table.json): the block
sends such bytes (42_transaction.md R154, R157) and executes none. The one effect the spec gives to bytes that reach the
block on the wire is the arrival event (60_exceptions.md R230), whatever the bytes are (93_implementation_defined.md I5), and
that is the meaning here: the two header bytes arrive, byte 0 first (log entry 4, DESIGN CHOICE). -/

namespace Sys2Proof.Machine

/-- A 16-bit wire word arrives, byte 0 from bits [15:8] (30_encoding.md R94; 60_exceptions.md R230). -/
def State.arriveWireWord (w : Half) (s : State) : State := s.arrive (hi8 w) [lo8 w]

/-- READ_FRAME: bytes 0x10, 0x01 arrive. -/
def execReadFrame (s : State) : Result := .next (s.arriveWireWord readFrameHeader)

/-- WRITE_FRAME: bytes 0x11, 0x03 arrive. -/
def execWriteFrame (s : State) : Result := .next (s.arriveWireWord writeFrameHeader)

end Sys2Proof.Machine
end

