-- ==== Sys2Proof/Machine/Dispatch.lean ====
section
/-! DEFINITION. One arm per constructor of Instr: each calls that instruction's meaning. -/

namespace Sys2Proof.Machine

def exec (i : Instr) (s : State) : Host.Outcome State Fault Refusal :=
  match i with
  | .wrbuf pos val => Sys2Proof.Machine.execWrbuf pos val s
  | .crc16 n => Sys2Proof.Machine.execCrc16 n s
  | .buildr index subindex => Sys2Proof.Machine.execBuildr index subindex s
  | .buildw index data => Sys2Proof.Machine.execBuildw index data s
  | .adv => Sys2Proof.Machine.execAdv s
  | .dec status => Sys2Proof.Machine.execDec status s
  | .readFrame => Sys2Proof.Machine.execReadFrame s
  | .writeFrame => Sys2Proof.Machine.execWriteFrame s

end Sys2Proof.Machine
end

