-- ==== Sys2Proof/Machine/ReadPort.lean ====
section
/-! DEFINITION. The codes of the enumerated elements, and the read port (10_state.md R44 to R53): a function of the state between two steps, with no side effect
(R44; 20_memory.md R77; log entry 16). -/

namespace Sys2Proof.Machine

/-- The 2-bit code of FKIND (10_state.md R25). -/
def FKind.code : FKind → BitVec 2
  | .none => 0
  | .read => 1
  | .write => 2

/-- The 3-bit code of OUTCOME (10_state.md R31). -/
def TxnOutcome.code : TxnOutcome → BitVec 3
  | .idle => 0
  | .processing => 1
  | .success => 2
  | .failed => 3
  | .timedOut => 4

/-- The 4-bit code of DIAG (10_state.md R33). -/
def Diag.code : Diag → BitVec 4
  | .none => 0
  | .badAck => 1
  | .empty => 2
  | .decode => 3
  | .timeoutP1 => 4
  | .timeoutP2 => 5
  | .timeoutP3 => 6

/-- The 3-bit code of CERR (60_exceptions.md R221). -/
def CmdStatus.code : CmdStatus → BitVec 3
  | .ok => 0
  | .illegal => 1
  | .range => 2
  | .busy => 3
  | .noframe => 4

/-- One bit of a register. -/
def flagBit (b : Bool) : BitVec 1 := if b then 1 else 0

/-- STATUS, register 0x00 (R46). -/
def State.statusReg (s : State) : Word :=
  0#8 ++ flagBit s.cerrs ++ s.cerr.code ++ s.diag.code ++ flagBit s.rxovf ++ flagBit s.dlexp ++ flagBit s.dlarm ++
    flagBit s.dr ++ s.fkind.code ++ s.stepIdx ++ 0#1 ++ s.outcome.code

/-- CRC, register 0x01 (R47). -/
def State.crcReg (s : State) : Word := 0#16 ++ s.crcr

/-- RESULT, register 0x02 (R48). -/
def State.resultReg (s : State) : Word := 0#16 ++ s.result

/-- DEC, register 0x03 (R49). -/
def State.decReg (s : State) : Word := s.decin ++ 0#12 ++ s.decout

/-- LEN, register 0x04 (R50). -/
def State.lenReg (s : State) : Word := 0#8 ++ s.rxcap ++ s.rxlen ++ 0#4 ++ s.flen

/-- FBk, register 0x08 + k (R51): bytes past FB[13] read 0. -/
def State.fbReg (k : Nat) (s : State) : Word :=
  littleEndian32 (s.fbAt (4 * k)) (s.fbAt (4 * k + 1)) (s.fbAt (4 * k + 2)) (s.fbAt (4 * k + 3))

/-- RXB[i] as the read port shows it: 0 at and past RXCAP (R52). -/
def State.rxByte (s : State) (i : Nat) : Byte := if i < s.rxcap.toNat then byteAt s.rxb i else 0

/-- RXBk, register 0x10 + k (R52). -/
def State.rxReg (k : Nat) (s : State) : Word :=
  littleEndian32 (s.rxByte (4 * k)) (s.rxByte (4 * k + 1)) (s.rxByte (4 * k + 2)) (s.rxByte (4 * k + 3))

/-- How many RXB registers there are: ceil(RXCAP/4) (R45). -/
def State.rxRegCount (s : State) : Nat := (s.rxcap.toNat + 3) / 4

/-- A read of register number `a` (R45); a reserved number reads 0 (R53). -/
def State.readPort (s : State) (a : Byte) : Word :=
  if a = 0x00 then s.statusReg
  else if a = 0x01 then s.crcReg
  else if a = 0x02 then s.resultReg
  else if a = 0x03 then s.decReg
  else if a = 0x04 then s.lenReg
  else if 0x08 ≤ a.toNat ∧ a.toNat ≤ 0x0B then s.fbReg (a.toNat - 0x08)
  else if 0x10 ≤ a.toNat ∧ a.toNat < 0x10 + s.rxRegCount then s.rxReg (a.toNat - 0x10)
  else 0

end Sys2Proof.Machine
end

