-- ==== Sys2Proof/Machine/Step.lean ====
section
/-! DEFINITION. One step of the machine: the oldest move of `State.inputs` is taken and performed (00_scope.md R7;
20_memory.md R71; log entry 1). -/

namespace Sys2Proof.Machine

/-- One agent's move, performed atomically (00_scope.md R7). -/
def react (move : Input) (s : State) : Host.Outcome State Fault Refusal :=
  match move with
  | .command c =>
    match decode (.command c) with
    | .ok i => exec i s
    | .error reason => .next (s.illegalCommand reason)
  | .arrival first rest => .next (s.arrive first rest)
  | .expiry => .next s.expire
  | .reset => .next s.blockReset

/-- The machine takes the oldest move of its agents; with none to come the block waits (42_transaction.md R151: it "never
advances STEP by itself"; 70_reset_and_hazards.md R252). -/
def step (s : State) : Host.Outcome State Fault Refusal :=
  match s.inputs with
  | [] => .next s
  | move :: later => react move { s with inputs := later }

/-- `s` with an opcode-table word as the next move, so that the next step fetches and runs exactly it (log entry 2). -/
def State.withFetchWord (s : State) (nbits w : Nat) : State :=
  { s with inputs := Input.ofPortWord (tablePortWord nbits w) :: s.inputs }

end Sys2Proof.Machine
end

