-- ==== Sys2Proof/Machine/Assembler.lean ====
section
/-! DEFINITION. The assembler of 30_encoding.md R87: one command per line, operands separated by commas, numbers decimal or
hexadecimal, comments from `;`. What R87 leaves open of the text (blanks, capitals) is log entry 14. -/

namespace Sys2Proof.Machine

/-- The command a line assembles to; none where an assembler must refuse its operands (R87). A negative index or data is
its two's-complement pattern (00_scope.md R15). -/
def assemble (line : AsmLine) : Option Instr :=
  if line.wellFormed then
    match line with
    | .wrbuf pos val => some (.wrbuf (BitVec.ofInt 8 pos) (BitVec.ofInt 8 val))
    | .crc16 n => some (.crc16 (BitVec.ofInt 8 n))
    | .buildr index subindex => some (.buildr (BitVec.ofInt 16 index) (BitVec.ofInt 8 subindex))
    | .buildw index data => some (.buildw (BitVec.ofInt 16 index) (BitVec.ofInt 32 data))
    | .adv => some .adv
    | .dec status => some (.dec (BitVec.ofInt 16 status))
  else none

/-- A blank between words: a space or a tab (log entry 14). -/
def isBlank (c : Char) : Bool := c == ' ' || c == '\t'

/-- The text without the blanks around it. -/
def trimBlanks (text : List Char) : List Char := ((text.dropWhile isBlank).reverse.dropWhile isBlank).reverse

/-- The pieces between commas. -/
def splitCommas : List Char → List (List Char)
  | [] => [[]]
  | c :: rest =>
    if c = ',' then [] :: splitCommas rest
    else match splitCommas rest with
      | [] => [[c]]
      | piece :: pieces => (c :: piece) :: pieces

/-- A digit's value in base 10 or 16, hexadecimal letters in either case. -/
def digitValue (base : Nat) (c : Char) : Option Nat :=
  let code := c.toNat
  let value := if 48 ≤ code ∧ code ≤ 57 then code - 48
    else if 65 ≤ code ∧ code ≤ 70 then code - 55
    else if 97 ≤ code ∧ code ≤ 102 then code - 87
    else base
  if value < base then some value else none

/-- An unsigned number: at least one digit. -/
def parseDigits (base : Nat) (digits : List Char) : Option Nat :=
  if digits.isEmpty then none
  else digits.foldl (fun sum c => match sum, digitValue base c with
    | some v, some d => some (v * base + d)
    | _, _ => none) (some 0)

/-- A numeric operand: decimal `123` or `-2`, or hexadecimal `0x6041` (R87). R87 allows a sign "where a rule allows a negative
value" and leaves open whether `-0` may stand for an operand that may not be negative: here `-0` reads as the value 0 for
every operand, and only the value is checked against the operand's range (log entry 14, DESIGN CHOICE). -/
def parseNumber : List Char → Option Int
  | '0' :: 'x' :: digits => (parseDigits 16 digits).map Int.ofNat
  | '-' :: digits => (parseDigits 10 digits).map fun v => -(v : Int)
  | digits => (parseDigits 10 digits).map Int.ofNat

/-- The operands of a line, none if one of them is no number. -/
def parseOperands (text : List Char) : Option (List Int) :=
  if text.isEmpty then some [] else (splitCommas text).mapM fun piece => parseNumber (trimBlanks piece)

/-- The line that a mnemonic and its operands spell (R87's table). -/
def lineOf (mnemonic : List Char) (operands : List Int) : Option AsmLine :=
  match operands with
  | [] => if mnemonic = ['a', 'd', 'v'] then some .adv else none
  | [x] =>
    if mnemonic = ['c', 'r', 'c', '1', '6'] then some (.crc16 x)
    else if mnemonic = ['d', 'e', 'c'] then some (.dec x)
    else none
  | [x, y] =>
    if mnemonic = ['w', 'r', 'b', 'u', 'f'] then some (.wrbuf x y)
    else if mnemonic = ['b', 'u', 'i', 'l', 'd', 'r'] then some (.buildr x y)
    else if mnemonic = ['b', 'u', 'i', 'l', 'd', 'w'] then some (.buildw x y)
    else none
  | _ => none

/-- A line of text: refused (`none`), holding no command (`some none`: blank, or only a comment), or a command line. -/
def parseLine (text : List Char) : Option (Option AsmLine) :=
  let line := trimBlanks (text.takeWhile (· != ';'))
  if line.isEmpty then some none
  else
    let mnemonic := line.takeWhile (fun c => !isBlank c)
    match parseOperands (trimBlanks (line.drop mnemonic.length)) with
    | some operands => (lineOf mnemonic operands).map some
    | none => none

/-- The word a line of text assembles to: refused, no word, or the encoded command. -/
def assembleText (text : List Char) : Option (Option PortWord) :=
  match parseLine text with
  | some none => some none
  | some (some line) => (assemble line).map fun i => some (encode i)
  | none => none

end Sys2Proof.Machine
end

