-- ==== Sys2Proof/Safety.lean ====
section
/-! DEFINITION. The terms claims use: the legal values and invariants the spec states (10_state.md R24 to R33, R36, R38;
42_transaction.md R163, R175; 60_exceptions.md R243), the conditions a host reads (R223, R264), the premise of a clean launch
(70_reset_and_hazards.md R255), and runs of interleaved moves with the fairness of 60_exceptions.md R242. -/

namespace Sys2Proof.Machine

/-- R32: a transaction is in progress. -/
def State.inProgress (s : State) : Prop := s.stepIdx ≠ 0

/-- 00_scope.md R17: a terminal outcome. -/
def TxnOutcome.terminal : TxnOutcome → Bool
  | .success | .failed | .timedOut => true
  | .idle | .processing => false

/-- R30: the legal values of STEP. -/
def legalSteps : List (BitVec 6) := [0, 1, 2, 3, 4, 5, 6, 7, 8, 9, 10, 20, 30, 40]

/-- R202: the codes DECOUT can hold. -/
def legalDecout : List (BitVec 4) := [0, 1, 2, 3, 4, 7, 8]

/-- R24, R25: the frame length that goes with each shape. -/
def FKind.length : FKind → BitVec 4
  | .none => 0
  | .read => 10
  | .write => 14

/-- The DIAG codes each point of a transaction can show, at STEP `k` with outcome `o` (R33, R225; 42_transaction.md R166,
R167). -/
def diagFits (k : BitVec 6) (o : TxnOutcome) (d : Diag) : Bool :=
  if k = 0 then
    match o with
    | .idle | .success | .processing => d == .none
    | .failed => d == .badAck || d == .empty || d == .decode
    | .timedOut => d == .timeoutP1 || d == .timeoutP2 || d == .timeoutP3
  else if k = 30 then d == .badAck || d == .empty || d == .decode
  else if k = 40 then d == .timeoutP1 || d == .timeoutP2 || d == .timeoutP3
  else d == .none

/-- The invariant of the machine: what the spec says holds of every state the block reaches. -/
structure State.Inv (s : State) : Prop where
  /-- R8: RXCAP is in its range. -/
  rxcap_legal : Config.rxcapLegal s.rxcap = true
  /-- R30: STEP is legal. -/
  step_legal : s.stepIdx ∈ legalSteps
  /-- R32: STEP != 0 if and only if OUTCOME = Processing. -/
  processing_iff : s.stepIdx ≠ 0 ↔ s.outcome = .processing
  /-- R24, R25: FLEN goes with FKIND. -/
  length_fits : s.flen = s.fkind.length
  /-- 42_transaction.md R150: no transaction without a frame. -/
  frame_built : s.fkind = .none → s.stepIdx = 0 ∧ s.outcome = .idle
  /-- R33, R225: DIAG goes with STEP and OUTCOME. -/
  diag_fits : diagFits s.stepIdx s.outcome s.diag = true
  /-- R27: RXB has RXCAP bytes. -/
  rxb_length : s.rxb.length = s.rxcap.toNat
  /-- R20: RXLEN is in 0..RXCAP. -/
  rxlen_le : s.rxlen.toNat ≤ s.rxcap.toNat
  /-- R27: every RXB[i] with i >= RXLEN holds 0x00. -/
  rxb_tail : ∀ i, s.rxlen.toNat ≤ i → byteAt s.rxb i = 0
  /-- R28: bytes were dropped only when RXB is full. -/
  rxovf_full : s.rxovf = true → s.rxlen = s.rxcap
  /-- R36: DLEXP is set only while DLARM is. -/
  dlexp_armed : s.dlexp = true → s.dlarm = true
  /-- R36: a poll step waits with its deadline armed; at rest it is disarmed. -/
  polls_armed : s.stepIdx = 2 ∨ s.stepIdx = 5 ∨ s.stepIdx = 8 → s.dlarm = true
  rest_disarmed : s.stepIdx = 0 → s.dlarm = false
  /-- 42_transaction.md R175: bit 7 of RESULT is always 0. -/
  result_bit7 : s.result.getLsbD 7 = false
  /-- R38, R202: DECOUT is a code the decoder writes, or 0. -/
  decout_legal : s.decout ∈ legalDecout
  /-- R39: an error of the last command is recorded in CERRS. -/
  cerrs_sticky : s.cerr ≠ .ok → s.cerrs = true
  /-- 60_exceptions.md R243: DR = 1 implies CHRX is not empty. -/
  dr_bytes : s.dr = true → s.chrx ≠ []
  /-- R168, R35: a drain step is reached only with DR = 1, which nothing clears before it. -/
  drains_ready : s.stepIdx = 3 ∨ s.stepIdx = 6 ∨ s.stepIdx = 9 → s.dr = true
  /-- R243: DIAG = EMPTY is unreachable while the transport keeps its duties. -/
  diag_not_empty : s.diag ≠ .empty

/-- R223: no command error has occurred since reset. -/
def State.noCommandError (s : State) : Prop := s.cerrs = false

/-- 70_reset_and_hazards.md R264: when a host may read RESULT as the status word. -/
def State.resultValid (s : State) : Prop := s.outcome = .success ∧ s.fkind = .read

/-- 70_reset_and_hazards.md R254, R255: a built frame, no transaction in progress, DR = 0 and no byte left over. -/
def State.launchReady (s : State) : Prop :=
  s.fkind ≠ .none ∧ s.stepIdx = 0 ∧ s.dr = false ∧ s.chrx = []

/-- The command word of ADV (30_encoding.md R83). -/
abbrev advWord : CommandWord := 0x5

/-- The status a command word earns, in the words of 60_exceptions.md R221 and in the order of R222: ILLEGAL, then RANGE, then
BUSY, then NOFRAME, else OK. It reads the word's raw fields (30_encoding.md R80), not the decoded instruction. -/
def statusOf (f : CommandFields) (s : State) : CmdStatus :=
  if f.wellFormed = false then .illegal
  else if (f.op = 1 ∧ 13 < f.b.toNat) ∨ (f.op = 2 ∧ 7 < f.b.toNat) then .range
  else if (f.op = 1 ∨ f.op = 3 ∨ f.op = 4) ∧ s.stepIdx ≠ 0 then .busy
  else if f.op = 5 ∧ s.fkind = .none then .noframe
  else .ok

/-- The move is an accepted ADV that performs step `k` (42_transaction.md R150, R151). -/
def PerformsStep (move : Input) (s : State) (k : BitVec 6) : Prop :=
  move = .command advWord ∧ s.fkind ≠ .none ∧ s.stepIdx = k

/-- A list of moves performed in order, stopping at the first fault or refusal. -/
def perform : List Input → State → Host.Outcome State Fault Refusal
  | [], s => .next s
  | move :: later, s =>
    match react move s with
    | .next t => perform later t
    | .fault r => .fault r
    | .refused r => .refused r

/-- An endless interleaving of moves (00_scope.md R7): `at_ k` is the state before the move `move k`. -/
structure IsRun (at_ : Nat → State) (move : Nat → Input) : Prop where
  next : ∀ k, react (move k) (at_ k) = .next (at_ (k + 1))

/-- 60_exceptions.md R242, weak fairness of the expiry event: it is not enabled for ever without occurring. -/
def FairExpiry (at_ : Nat → State) (move : Nat → Input) : Prop :=
  ∀ k, ∃ m, k ≤ m ∧ (¬((at_ m).dlarm = true ∧ (at_ m).dlexp = false) ∨ move m = .expiry)

/-- 60_exceptions.md R242, the host's own fairness: it keeps issuing ADV. -/
def HostKeepsAdvancing (move : Nat → Input) : Prop := ∀ k, ∃ m, k ≤ m ∧ move m = .command advWord

end Sys2Proof.Machine
end

