-- ==== Sys2Proof/Certificates/Slice0/Obligations.lean ====
section
/-! DEFINITION. The statements about the machine, from the numbered rules of spec/. A rule of another file is cited with its
number alone: rule numbers are unique across the spec. -/

open Sys2Proof Sys2Proof.Machine

/-! ## Encoding and decoding -/

/-- Words written out bit by bit from R83 and R87, and the wire headers of R94, decode to the instruction they stand for. -/
def Obligations.WrittenOutWordsDecode : Prop :=
  decode (.command 0x0000000000FF0D01) = .ok (.wrbuf 13 0xFF) ∧
  decode (.command 0x0000000000000702) = .ok (.crc16 7) ∧
  decode (.command 0x0000000060410503) = .ok (.buildr 0x6041 5) ∧
  decode (.command 0x12345678607F0004) = .ok (.buildw 0x607F 0x12345678) ∧
  decode (.command 0x0000000000000005) = .ok .adv ∧
  decode (.command 0x0000000001400006) = .ok (.dec 0x0140) ∧
  decode (.wire 0x1001) = .ok .readFrame ∧
  decode (.wire 0x1103) = .ok .writeFrame

/-- Decode and encode agree: an instruction's own word decodes to it with every operand, a word that decodes to an
instruction is that instruction's only word, and the opcode table's reading of the word is the same. -/
def Obligations.DecodeAndEncodeAgree : Prop :=
  (∀ (i : Instr) (p : PortWord), decode p = .ok i ↔ encode i = p) ∧
  ∀ i : Instr, decodeTableWord (tableWordOf i).1 (tableWordOf i).2 = some i

/-- R83: a word encodes mnemonic M exactly when (c AND mask) = match; at most one mnemonic matches any word; and the words
that some mnemonic matches are the well-formed ones; a range field may take any value, and one out of range raises RANGE
when the command runs. -/
def Obligations.WordEncodesMnemonicByMaskAndMatch : Prop :=
  ∀ c : CommandWord,
    ((∃ pos val, decode (.command c) = .ok (.wrbuf pos val)) ↔ c &&& 0xFFFFFFFFFF0000FF = 0x1) ∧
    ((∃ n, decode (.command c) = .ok (.crc16 n)) ↔ c &&& 0xFFFFFFFFFFFF00FF = 0x2) ∧
    ((∃ index subindex, decode (.command c) = .ok (.buildr index subindex)) ↔ c &&& 0xFFFFFFFF000000FF = 0x3) ∧
    ((∃ index data, decode (.command c) = .ok (.buildw index data)) ↔ c &&& 0x000000000000FFFF = 0x4) ∧
    (decode (.command c) = .ok .adv ↔ c &&& 0xFFFFFFFFFFFFFFFF = 0x5) ∧
    ((∃ status, decode (.command c) = .ok (.dec status)) ↔ c &&& 0xFFFFFFFF0000FFFF = 0x6) ∧
    (∀ i j m k, commandRow i = some m → commandRow j = some k →
      c &&& m.2 = m.1 → c &&& k.2 = k.1 → m = k) ∧
    ((fieldsOf c).wellFormed = true ↔ ∃ i, decode (.command c) = .ok i) ∧
    ∀ s : State, (fieldsOf c).wellFormed = true →
      ((fieldsOf c).op = 1 ∧ 13 < (fieldsOf c).b.toNat) ∨ ((fieldsOf c).op = 2 ∧ 7 < (fieldsOf c).b.toNat) →
      react (.command c) s = .next { s with cerr := .range, cerrs := true }

/-- R84 with R81: every operand of a decoded command is the field of the word it is assembled from, at its width. -/
def Obligations.OperandsAreTheirFields : Prop :=
  ∀ (c : CommandWord) (i : Instr), decode (.command c) = .ok i →
    match i with
    | .wrbuf pos val => c.extractLsb' 0 4 = 1 ∧ pos = c.extractLsb' 8 8 ∧ val = c.extractLsb' 16 8
    | .crc16 n => c.extractLsb' 0 4 = 2 ∧ n = c.extractLsb' 8 8
    | .buildr index subindex => c.extractLsb' 0 4 = 3 ∧ index = c.extractLsb' 16 16 ∧ subindex = c.extractLsb' 8 8
    | .buildw index data => c.extractLsb' 0 4 = 4 ∧ index = c.extractLsb' 16 16 ∧ data = c.extractLsb' 32 32
    | .adv => c.extractLsb' 0 4 = 5
    | .dec status => c.extractLsb' 0 4 = 6 ∧ status = c.extractLsb' 16 16
    | .readFrame | .writeFrame => False

/-- R85: a word with a reserved opcode, a non-zero z, or a non-zero field that R83 marks "0" raises ILLEGAL and has no effect
beyond CERR and CERRS. -/
def Obligations.ReservedWordsRaiseIllegal : Prop :=
  ∀ (c : CommandWord) (s : State),
    (c.extractLsb' 0 4 = 0 ∨ 7 ≤ (c.extractLsb' 0 4).toNat ∨
      c.extractLsb' 4 4 ≠ 0 ∨
      (c.extractLsb' 0 4 = 1 ∧ (c.extractLsb' 24 8 ≠ 0 ∨ c.extractLsb' 32 32 ≠ 0)) ∨
      (c.extractLsb' 0 4 = 2 ∧ (c.extractLsb' 16 16 ≠ 0 ∨ c.extractLsb' 32 32 ≠ 0)) ∨
      (c.extractLsb' 0 4 = 3 ∧ c.extractLsb' 32 32 ≠ 0) ∨
      (c.extractLsb' 0 4 = 4 ∧ c.extractLsb' 8 8 ≠ 0) ∨
      (c.extractLsb' 0 4 = 5 ∧ c.extractLsb' 4 60 ≠ 0) ∨
      (c.extractLsb' 0 4 = 6 ∧ (c.extractLsb' 8 8 ≠ 0 ∨ c.extractLsb' 32 32 ≠ 0))) →
    react (.command c) s = .next { s with cerr := .illegal, cerrs := true }

/-- A step runs the decoded instruction. First clause, from R7, R71 and R89: with a command word that decodes to `i` as the
oldest of the moves to come (the list is the model's own, log entry 1), step is exec of `i` on the state without that move.
Second clause, the model's choice and no rule's: the block fetches nothing (R22, R60, R75), so `withFetchWord` puts an
opcode-table word in front of the moves to come (log entry 2), a number of the table is read as a command word or a wire word
by `decodeTableWord` (log entry 10), and a wire row runs as an arrival (log entry 4); with a table word of `i` put there, step
is exec of `i`. -/
def Obligations.StepRunsTheDecodedInstruction : Prop :=
  (∀ (s : State) (c : CommandWord) (later : List Input) (i : Instr),
    s.inputs = .command c :: later → decode (.command c) = .ok i → step s = exec i { s with inputs := later }) ∧
  ∀ (s : State) (nbits w : Nat) (i : Instr),
    decodeTableWord nbits w = some i → step (s.withFetchWord nbits w) = exec i s

/-- R87's operand ranges and encodings: an operand in its range assembles to the word the table gives, a negative index or
data as its two's-complement pattern, and an operand outside its range is refused. -/
def Obligations.AssemblerEncodesAndRefuses : Prop :=
  (∀ pos val : Int, (assemble (.wrbuf pos val)).map encode =
    if 0 ≤ pos ∧ pos ≤ 255 ∧ 0 ≤ val ∧ val ≤ 255 then
      some (.command ((BitVec.ofInt 64 val <<< 16) ||| (BitVec.ofInt 64 pos <<< 8) ||| 0x1)) else none) ∧
  (∀ n : Int, (assemble (.crc16 n)).map encode =
    if 0 ≤ n ∧ n ≤ 255 then some (.command ((BitVec.ofInt 64 n <<< 8) ||| 0x2)) else none) ∧
  (∀ index subindex : Int, (assemble (.buildr index subindex)).map encode =
    if -32768 ≤ index ∧ index ≤ 0xFFFF ∧ 0 ≤ subindex ∧ subindex ≤ 255 then
      some (.command ((BitVec.ofInt 64 (index % 65536) <<< 16) ||| (BitVec.ofInt 64 subindex <<< 8) ||| 0x3)) else none) ∧
  (∀ index data : Int, (assemble (.buildw index data)).map encode =
    if -32768 ≤ index ∧ index ≤ 0xFFFF ∧ -2147483648 ≤ data ∧ data ≤ 0xFFFFFFFF then
      some (.command ((BitVec.ofInt 64 (data % 4294967296) <<< 32) ||| (BitVec.ofInt 64 (index % 65536) <<< 16) ||| 0x4))
    else none) ∧
  (assemble .adv).map encode = some (.command 0x5) ∧
  ∀ status : Int, (assemble (.dec status)).map encode =
    if 0 ≤ status ∧ status ≤ 0xFFFF then some (.command ((BitVec.ofInt 64 status <<< 16) ||| 0x6)) else none

/-! ## What each command does -/

/-- R137: WRBUF on a position 0..13 with no transaction in progress writes that one byte of FB; every other byte of FB reads
as before, and nothing else changes but the command status. -/
def Obligations.WrbufWritesOneByte : Prop :=
  ∀ (pos val : Byte) (s : State), pos.toNat ≤ 13 → s.stepIdx = 0 →
    ∃ t, exec (.wrbuf pos val) s = .next t ∧
      t = { s with fb := t.fb, cerr := .ok } ∧
      t.fbAt pos.toNat = val ∧ ∀ k, k ≠ pos.toNat → t.fbAt k = s.fbAt k

/-- R119: CRC16 with n up to 7 answers the CRC of the first n words of FB in CRCR, at every STEP, and changes nothing else. -/
def Obligations.Crc16WritesTheChecksum : Prop :=
  ∀ (n : Byte) (s : State), n.toNat ≤ 7 →
    exec (.crc16 n) s = .next { s with crcr := crc16 s.fb.toList n.toNat, cerr := .ok }

/-- R131: BUILDR with no transaction in progress builds the read-frame of R90, its CRC taken over bytes 0..7 with the CRC
field zero, zeroes FB[10..13], and starts a new transaction record; RESULT, DR, RXB and the deadline stay. -/
def Obligations.BuildrBuildsTheReadFrame : Prop :=
  ∀ (index : Half) (subindex : Byte) (s : State), s.stepIdx = 0 →
    let crc := crc16 [0x10, 0x01, index.extractLsb' 0 8, index.extractLsb' 8 8, subindex, 0x02, 0x00, 0x00] 4
    exec (.buildr index subindex) s = .next { s with
      fb := #v[0x10, 0x01, index.extractLsb' 0 8, index.extractLsb' 8 8, subindex, 0x02,
        crc.extractLsb' 0 8, crc.extractLsb' 8 8, 0x4F, 0x46, 0x00, 0x00, 0x00, 0x00]
      flen := 10, fkind := .read, crcr := crc, outcome := .idle, diag := .none, cerr := .ok }

/-- R133: BUILDW with no transaction in progress builds the write-frame of R91, its CRC taken over bytes 0..11 with the CRC
field zero, and starts a new transaction record. -/
def Obligations.BuildwBuildsTheWriteFrame : Prop :=
  ∀ (index : Half) (data : Word) (s : State), s.stepIdx = 0 →
    let crc := crc16 [0x11, 0x03, index.extractLsb' 0 8, index.extractLsb' 8 8, 0x00, 0x02,
      data.extractLsb' 0 8, data.extractLsb' 8 8, data.extractLsb' 16 8, data.extractLsb' 24 8, 0x00, 0x00] 6
    exec (.buildw index data) s = .next { s with
      fb := #v[0x11, 0x03, index.extractLsb' 0 8, index.extractLsb' 8 8, 0x00, 0x02,
        data.extractLsb' 0 8, data.extractLsb' 8 8, data.extractLsb' 16 8, data.extractLsb' 24 8,
        crc.extractLsb' 0 8, crc.extractLsb' 8 8, 0x4F, 0x46]
      flen := 14, fkind := .write, crcr := crc, outcome := .idle, diag := .none, cerr := .ok }

/-- R200 with R201: DEC writes DECIN and the table's code to DECOUT at every STEP and changes nothing else. -/
def Obligations.DecWritesTheNextStep : Prop :=
  ∀ (status : Half) (s : State), exec (.dec status) s = .next { s with
    decin := status
    decout := if status = 0x0140 then 2 else if status = 0x0121 ∨ status = 0x0123 then 3
      else if status = 0x0137 then 4 else if status = 0x0117 then 7 else if status = 0x0108 then 8 else 1
    cerr := .ok }

/-- The model's choice for the two wire rows, which are no commands (log entry 4): their header bytes arrive on the wire, byte
0 first, which is the arrival event of R230 and changes nothing else. -/
def Obligations.WireHeadersArriveAsBytes : Prop :=
  ∀ s : State,
    exec .readFrame s = .next { s with chrx := s.chrx ++ [0x10, 0x01], dr := true } ∧
    exec .writeFrame s = .next { s with chrx := s.chrx ++ [0x11, 0x03], dr := true }

/-! ## Command errors -/

/-- R221 and R222: every command word leaves in CERR the first error that applies to it, in the order ILLEGAL, RANGE, BUSY,
NOFRAME, or 0 when none applies, with the codes of R221. -/
def Obligations.CommandStatusFollowsThePriority : Prop :=
  (∀ (c : CommandWord) (s t : State), react (.command c) s = .next t → t.cerr = statusOf (fieldsOf c) s) ∧
  CmdStatus.ok.code = 0 ∧ CmdStatus.illegal.code = 1 ∧ CmdStatus.range.code = 2 ∧ CmdStatus.busy.code = 3 ∧
  CmdStatus.noframe.code = 4

/-- R220: a command error changes CERR and CERRS and nothing else. -/
def Obligations.RefusedCommandHasNoOtherEffect : Prop :=
  ∀ (c : CommandWord) (s t : State), react (.command c) s = .next t → t.cerr ≠ .ok →
    t = { s with cerr := t.cerr, cerrs := true }

/-- R39, R223: every command performs CERRS <- CERRS OR (CERR != 0), no other move but reset writes CERR or CERRS, and reset
clears both. -/
def Obligations.ErrorRecordIsSticky : Prop :=
  ∀ (move : Input) (s t : State), react move s = .next t →
    match move with
    | .command _ => t.cerrs = (s.cerrs || t.cerr != .ok)
    | .reset => t.cerr = .ok ∧ t.cerrs = false
    | .arrival _ _ | .expiry => t.cerr = s.cerr ∧ t.cerrs = s.cerrs

/-- R135: while a transaction is in progress BUILDR, BUILDW and an in-range WRBUF raise BUSY and change nothing but CERR and
CERRS (an out-of-range WRBUF raises RANGE, R222); with STEP = 0 they are accepted, whatever OUTCOME is. -/
def Obligations.FrameWritersRefusedWhileBusy : Prop :=
  (∀ s : State, s.stepIdx ≠ 0 →
    (∀ index subindex, exec (.buildr index subindex) s = .next { s with cerr := .busy, cerrs := true }) ∧
    (∀ index data, exec (.buildw index data) s = .next { s with cerr := .busy, cerrs := true }) ∧
    ∀ pos val, exec (.wrbuf pos val) s =
      .next { s with cerr := if pos.toNat ≤ 13 then .busy else .range, cerrs := true }) ∧
  ∀ s : State, s.stepIdx = 0 →
    (∀ index subindex, ∃ t, exec (.buildr index subindex) s = .next t ∧ t.cerr = .ok) ∧
    (∀ index data, ∃ t, exec (.buildw index data) s = .next t ∧ t.cerr = .ok) ∧
    ∀ pos val : Byte, pos.toNat ≤ 13 → ∃ t, exec (.wrbuf pos val) s = .next t ∧ t.cerr = .ok

/-- R43: an accepted command writes only the state of its row, and a refused one only CERR and CERRS. -/
def Obligations.CommandsWriteOnlyTheirColumns : Prop :=
  ∀ (c : CommandWord) (s t : State), react (.command c) s = .next t →
    (t.rxcap = s.rxcap ∧ t.inputs = s.inputs) ∧
    (t.cerr ≠ .ok → t = { s with cerr := t.cerr, cerrs := t.cerrs }) ∧
    ((fieldsOf c).op = 1 → t = { s with cerr := t.cerr, cerrs := t.cerrs, fb := t.fb }) ∧
    ((fieldsOf c).op = 2 → t = { s with cerr := t.cerr, cerrs := t.cerrs, crcr := t.crcr }) ∧
    ((fieldsOf c).op = 3 ∨ (fieldsOf c).op = 4 → t = { s with
      cerr := t.cerr, cerrs := t.cerrs, fb := t.fb, flen := t.flen, fkind := t.fkind, crcr := t.crcr
      outcome := t.outcome, diag := t.diag }) ∧
    ((fieldsOf c).op = 5 → t = { s with
      cerr := t.cerr, cerrs := t.cerrs, stepIdx := t.stepIdx, outcome := t.outcome, diag := t.diag, result := t.result
      dr := t.dr, dlarm := t.dlarm, dlexp := t.dlexp, rxb := t.rxb, rxlen := t.rxlen, rxovf := t.rxovf
      txlog := t.txlog, chrx := t.chrx }) ∧
    ((fieldsOf c).op = 6 → t = { s with
      cerr := t.cerr, cerrs := t.cerrs, decin := t.decin, decout := t.decout })

/-! ## The transaction controller -/

/-- R153, R154: step 0 sets OUTCOME to Processing, clears DIAG and RESULT and goes to step 1, sending nothing and leaving DR,
the deadline and RXB; step 1 sends FB[0], arms the deadline and goes to step 2. -/
def Obligations.StepsZeroAndOneStartTheExchange : Prop :=
  ∀ s : State, s.fkind ≠ .none →
    (s.stepIdx = 0 → exec .adv s = .next { s with
      outcome := .processing, diag := .none, result := 0, stepIdx := 1, cerr := .ok }) ∧
    (s.stepIdx = 1 → exec .adv s = .next { s with
      txlog := s.txlog ++ [s.fb[0]], dlarm := true, dlexp := false, stepIdx := 2, cerr := .ok })

/-- R155, R158, R161 with R168: a poll step advances on DR = 1 whatever DLEXP is, jumps to step 40 with its TIMEOUT code when
only DLEXP = 1, and else changes nothing but CERR. -/
def Obligations.PollStepsWaitForReadyOrDeadline : Prop :=
  ∀ s : State, s.fkind ≠ .none →
    ∀ (here next : BitVec 6) (code : Diag),
      (here, next, code) ∈ [((2 : BitVec 6), (3 : BitVec 6), Diag.timeoutP1), (5, 6, .timeoutP2), (8, 9, .timeoutP3)] →
      s.stepIdx = here →
      exec .adv s = .next (
        if s.dr = true then { s with stepIdx := next, cerr := .ok }
        else if s.dlexp = true then { s with diag := code, stepIdx := 40, cerr := .ok }
        else { s with cerr := .ok })

/-- R156 with R170: step 3 drains CHRX, drops its bytes, zeroes RXB, clears RXLEN, RXOVF and DR, and goes to step 4. -/
def Obligations.StepThreeDiscardsTheResponse : Prop :=
  ∀ s : State, s.fkind ≠ .none → s.stepIdx = 3 →
    exec .adv s = .next { s with
      chrx := [], rxb := List.replicate s.rxcap.toNat 0, rxlen := 0, rxovf := false, dr := false
      stepIdx := 4, cerr := .ok }

/-- R157, R160, R164 with R152: the sending steps 4, 7 and 10 send FB[1..N-3], FB[N-2] and FB[N-2] for N = FLEN, 10 or 14;
4 and 7 arm the deadline and 10 does not. -/
def Obligations.SendingStepsSendTheirSlices : Prop :=
  ∀ s : State, s.fkind ≠ .none → s.flen = 10 ∨ s.flen = 14 →
    (s.stepIdx = 4 → exec .adv s = .next { s with
      txlog := s.txlog ++ (s.fb.toList.drop 1).take (s.flen.toNat - 3)
      dlarm := true, dlexp := false, stepIdx := 5, cerr := .ok }) ∧
    (s.stepIdx = 7 → exec .adv s = .next { s with
      txlog := s.txlog ++ [s.fb.toList.getD (s.flen.toNat - 2) 0]
      dlarm := true, dlexp := false, stepIdx := 8, cerr := .ok }) ∧
    (s.stepIdx = 10 → exec .adv s = .next { s with
      txlog := s.txlog ++ [s.fb.toList.getD (s.flen.toNat - 2) 0], stepIdx := 20, cerr := .ok })

/-- R169: drain-and-store empties CHRX, puts its bytes into RXB[i] for i < RXCAP, zero past the last, sets RXLEN to the count
up to RXCAP and RXOVF when bytes were dropped, clears DR, and changes nothing else. -/
def Obligations.DrainStoreFillsTheReceiveBuffer : Prop :=
  ∀ s : State, ∃ t, s.drainStore = t ∧
    t = { s with chrx := [], dr := false, rxb := t.rxb, rxlen := t.rxlen, rxovf := t.rxovf } ∧
    t.rxb.length = s.rxcap.toNat ∧
    (∀ i, i < s.rxcap.toNat → t.rxb[i]? = some (if h : i < s.chrx.length then s.chrx[i] else 0)) ∧
    t.rxlen.toNat = min s.chrx.length s.rxcap.toNat ∧
    (t.rxovf = true ↔ s.rxcap.toNat < s.chrx.length)

/-- R159: step 6 stores the drain, then goes to step 7 if its first byte is 0x4F, and else to step 30 with DIAG = EMPTY when
nothing was drained and BAD_ACK otherwise; later bytes do not matter. -/
def Obligations.StepSixChecksTheFirstByte : Prop :=
  ∀ s : State, s.fkind ≠ .none → s.stepIdx = 6 → 7 ≤ s.rxcap.toNat →
    (s.chrx = [] → exec .adv s = .next { s.drainStore with diag := .empty, stepIdx := 30, cerr := .ok }) ∧
    ∀ first rest, s.chrx = first :: rest →
      exec .adv s = .next (
        if first = 0x4F then { s.drainStore with stepIdx := 7, cerr := .ok }
        else { s.drainStore with diag := .badAck, stepIdx := 30, cerr := .ok })

/-- R162, R163: step 9 stores the drain; a write-transaction goes to step 10, a read-transaction that drained at least 7
bytes writes RESULT from bytes 5 and 6 and goes to step 10, and one that drained fewer goes to step 30 with DIAG = DECODE. -/
def Obligations.StepNineTakesTheData : Prop :=
  ∀ s : State, s.stepIdx = 9 → 7 ≤ s.rxcap.toNat →
    (s.fkind = .write → exec .adv s = .next { s.drainStore with stepIdx := 10, cerr := .ok }) ∧
    (s.fkind = .read →
      (∀ b0 b1 b2 b3 b4 b5 b6 rest, s.chrx = b0 :: b1 :: b2 :: b3 :: b4 :: b5 :: b6 :: rest →
        exec .adv s = .next { s.drainStore with
          result := (b6.zeroExtend 16 <<< 8) + (b5.zeroExtend 16 &&& 0x417F), stepIdx := 10, cerr := .ok }) ∧
      (s.chrx.length < 7 →
        exec .adv s = .next { s.drainStore with diag := .decode, stepIdx := 30, cerr := .ok }))

/-- R165, R166, R167: the terminal steps 20, 30 and 40 record Success, Failed and TimedOut, reset STEP to 0 and disarm the
deadline; DIAG and everything else stay. -/
def Obligations.TerminalStepsRecordTheOutcome : Prop :=
  ∀ s : State, s.fkind ≠ .none →
    (s.stepIdx = 20 → exec .adv s = .next { s with
      outcome := .success, stepIdx := 0, dlarm := false, dlexp := false, cerr := .ok }) ∧
    (s.stepIdx = 30 → exec .adv s = .next { s with
      outcome := .failed, stepIdx := 0, dlarm := false, dlexp := false, cerr := .ok }) ∧
    (s.stepIdx = 40 → exec .adv s = .next { s with
      outcome := .timedOut, stepIdx := 0, dlarm := false, dlexp := false, cerr := .ok })

/-- R151 with R171's STEP columns: each accepted ADV makes exactly one move of the transition table. -/
def Obligations.AdvMakesOneTableMove : Prop :=
  ∀ s t : State, s.fkind ≠ .none → exec .adv s = .next t →
    (s.stepIdx, t.stepIdx) ∈ ([(0, 1), (1, 2), (2, 3), (2, 40), (2, 2), (3, 4), (4, 5), (5, 6), (5, 40), (5, 5), (6, 7),
      (6, 30), (7, 8), (8, 9), (8, 40), (8, 8), (9, 10), (9, 30), (10, 20), (20, 0), (30, 0), (40, 0)] :
      List (BitVec 6 × BitVec 6))

/-- R178 and I17: ADV at a STEP that no rule reaches is the fault unreachable_step; a sending step that finds a frame length
that is never written is a fault (the model's choice, log entry 8). -/
def Obligations.UnreachableStatesFault : Prop :=
  (∀ s : State, s.fkind ≠ .none → s.stepIdx ∉ legalSteps → exec .adv s = .fault .unreachableStep) ∧
  ∀ s : State, s.fkind ≠ .none → s.stepIdx = 4 ∨ s.stepIdx = 7 ∨ s.stepIdx = 10 → s.flen ≠ 10 → s.flen ≠ 14 →
    exec .adv s = .fault .unreachableFrameLength

/-- R175, R205: the arithmetic of the result word; each word of the decode table is the result word of some response bytes,
with bit 7 of byte 5 clear or set, and no word with bit 7 set is one. -/
def Obligations.ResultWordArithmetic : Prop :=
  (∀ byte5 byte6 : Byte,
    (byte5.zeroExtend 16 &&& 0x417F : Half) = byte5.zeroExtend 16 &&& 0x007F ∧
    (byte6.zeroExtend 16 <<< 8 : Half) + (byte5.zeroExtend 16 &&& 0x417F) =
      (byte6.zeroExtend 16 <<< 8) ||| (byte5.zeroExtend 16 &&& 0x417F) ∧
    resultWord byte5 byte6 = byte6 ++ 0#1 ++ byte5.extractLsb' 0 7 ∧
    (resultWord byte5 byte6).toNat ≤ 0xFF7F ∧
    (resultWord byte5 byte6).getLsbD 7 = false) ∧
  resultWord 0xC0 0x82 = 0x8240 ∧
  ((((0x82 : Byte).zeroExtend 16 <<< 8) ||| (0xC0 : Byte).zeroExtend 16) &&& 0x417F : Half) = 0x0040 ∧
  ∀ w ∈ ([0x0140, 0x0121, 0x0123, 0x0137, 0x0117, 0x0108] : List Half),
    resultWord (w.extractLsb' 0 8) (w.extractLsb' 8 8) = w ∧
    resultWord (w.extractLsb' 0 8 ||| 0x80) (w.extractLsb' 8 8) = w

/-! ## Who writes what, over every move of every agent -/

/-- R35: DR is set by every arrival, cleared by steps 3, 6 and 9 and by reset, and written by nothing else. -/
def Obligations.DataReadyWriters : Prop :=
  ∀ (move : Input) (s t : State), react move s = .next t →
    ((∃ first rest, move = .arrival first rest) → t.dr = true) ∧
    (PerformsStep move s 3 ∨ PerformsStep move s 6 ∨ PerformsStep move s 9 ∨ move = .reset → t.dr = false) ∧
    ((∀ first rest, move ≠ .arrival first rest) → ¬PerformsStep move s 3 → ¬PerformsStep move s 6 →
      ¬PerformsStep move s 9 → move ≠ .reset → t.dr = s.dr)

/-- R36: steps 1, 4 and 7 arm the deadline, steps 20, 30 and 40 and reset disarm it, DLEXP goes from 0 to 1 only by an expiry
event while DLARM = 1, and nothing else writes either bit. -/
def Obligations.DeadlineWriters : Prop :=
  ∀ (move : Input) (s t : State), react move s = .next t →
    (PerformsStep move s 1 ∨ PerformsStep move s 4 ∨ PerformsStep move s 7 → t.dlarm = true ∧ t.dlexp = false) ∧
    (PerformsStep move s 20 ∨ PerformsStep move s 30 ∨ PerformsStep move s 40 ∨ move = .reset →
      t.dlarm = false ∧ t.dlexp = false) ∧
    (¬PerformsStep move s 1 → ¬PerformsStep move s 4 → ¬PerformsStep move s 7 → ¬PerformsStep move s 20 →
      ¬PerformsStep move s 30 → ¬PerformsStep move s 40 → move ≠ .reset → t.dlarm = s.dlarm ∧
      (move ≠ .expiry → t.dlexp = s.dlexp)) ∧
    (s.dlexp = false → t.dlexp = true → move = .expiry ∧ s.dlarm = true) ∧
    (move = .expiry → s.dlarm = true → t.dlexp = true)

/-- R28: RXOVF is set by a drain-and-store of more than RXCAP bytes, cleared by one of RXCAP bytes or fewer, by a
drain-and-discard and by reset, and written by nothing else. -/
def Obligations.OverflowFlagWriters : Prop :=
  ∀ (move : Input) (s t : State), react move s = .next t →
    (PerformsStep move s 6 ∨ PerformsStep move s 9 → (t.rxovf = true ↔ s.rxcap.toNat < s.chrx.length)) ∧
    (PerformsStep move s 3 ∨ move = .reset → t.rxovf = false) ∧
    (¬PerformsStep move s 6 → ¬PerformsStep move s 9 → ¬PerformsStep move s 3 → move ≠ .reset → t.rxovf = s.rxovf)

/-- R29: step 0 clears RESULT, a successful decode at step 9 of a read-transaction writes it, reset clears it (R250), and
nothing else writes it. -/
def Obligations.ResultWriters : Prop :=
  ∀ (move : Input) (s t : State), 7 ≤ s.rxcap.toNat → react move s = .next t →
    (PerformsStep move s 0 ∨ move = .reset → t.result = 0) ∧
    (PerformsStep move s 9 → s.fkind = .read → ∀ (h : 7 ≤ s.chrx.length), t.result = resultWord s.chrx[5] s.chrx[6]) ∧
    (¬PerformsStep move s 0 → move ≠ .reset → ¬(PerformsStep move s 9 ∧ s.fkind = .read ∧ 7 ≤ s.chrx.length) →
      t.result = s.result)

/-- R66, R230, R258: CHRX grows by arrivals alone, at its end, and the drain steps 3, 6 and 9 empty it; nothing else touches
it, reset included. -/
def Obligations.OnlyDrainStepsTakeBytes : Prop :=
  ∀ (move : Input) (s t : State), react move s = .next t →
    (PerformsStep move s 3 ∨ PerformsStep move s 6 ∨ PerformsStep move s 9 → t.chrx = []) ∧
    (¬PerformsStep move s 3 → ¬PerformsStep move s 6 → ¬PerformsStep move s 9 →
      t.chrx = s.chrx ++ match move with
        | .arrival first rest => first :: rest
        | _ => [])

/-- R67, R68, R96: TXLOG grows at its end by the sending steps alone: by FB[0], by FB[1..N-3] or by FB[N-2]. The nack marker
FB[N-1] is in none of these slices. -/
def Obligations.OnlySendingStepsSend : Prop :=
  ∀ (move : Input) (s t : State), react move s = .next t →
    (PerformsStep move s 1 → t.txlog = s.txlog ++ [s.fbAt 0]) ∧
    (PerformsStep move s 4 → t.txlog = s.txlog ++ s.fbSlice 1 (s.flen.toNat - 3)) ∧
    (PerformsStep move s 7 ∨ PerformsStep move s 10 → t.txlog = s.txlog ++ [s.fbAt (s.flen.toNat - 2)]) ∧
    (¬PerformsStep move s 1 → ¬PerformsStep move s 4 → ¬PerformsStep move s 7 → ¬PerformsStep move s 10 →
      t.txlog = s.txlog)

/-- R75, R138: while a transaction is in progress no move but reset changes FB, FLEN or FKIND, so every byte a transaction
sends is the FB content of its step 0. -/
def Obligations.FrameIsFrozenWhileInProgress : Prop :=
  ∀ (move : Input) (s t : State), react move s = .next t → s.inProgress → move ≠ .reset →
    t.fb = s.fb ∧ t.flen = s.flen ∧ t.fkind = s.fkind

/-- R177: steps other than the poll steps 2, 5 and 8 do not read DLEXP: two states that differ in it alone go to states that
differ in it at most. -/
def Obligations.ExpiryIsReadOnlyByPollSteps : Prop :=
  ∀ (s t : State) (expired : Bool), s.stepIdx ≠ 2 → s.stepIdx ≠ 5 → s.stepIdx ≠ 8 → exec .adv s = .next t →
    ∃ u, exec .adv { s with dlexp := expired } = .next u ∧ { u with dlexp := t.dlexp } = t

/-- R230, R231: an arrival appends its bytes to CHRX and sets DR, at any time; two arrivals before a drain are the same as one
with the bytes of both, so the block can never tell one from two. -/
def Obligations.ArrivalsAccumulate : Prop :=
  ∀ (s : State) (first second : Byte) (rest more : List Byte),
    react (.arrival first rest) s = .next { s with chrx := s.chrx ++ first :: rest, dr := true } ∧
    perform [.arrival first rest, .arrival second more] s = react (.arrival first (rest ++ second :: more)) s

/-- R233: the expiry event sets DLEXP when DLARM = 1 and DLEXP = 0, and changes nothing else; where it is not enabled the move
does nothing, which is the model's choice (log entry 5). -/
def Obligations.ExpirySetsTheElapsedBit : Prop :=
  ∀ s : State, react .expiry s = .next (
    if s.dlarm = true ∧ s.dlexp = false then { s with dlexp := true } else s)

/-! ## Reset -/

/-- R250: a reset gives every element of R20 its reset value and leaves CHRX and TXLOG; the read port then shows
LEN = RXCAP << 16 and 0 in every other register. -/
def Obligations.ResetClearsTheBlock : Prop :=
  ∀ s : State, ∃ t, react .reset s = .next t ∧
    t = { State.reset with
      rxcap := s.rxcap, rxb := List.replicate s.rxcap.toNat 0, chrx := s.chrx, txlog := s.txlog, inputs := s.inputs } ∧
    (∀ k, t.fbAt k = 0) ∧ t.flen = 0 ∧ t.fkind = .none ∧ t.crcr = 0 ∧ t.stepIdx = 0 ∧ t.outcome = .idle ∧
    t.diag = .none ∧ t.result = 0 ∧ t.dr = false ∧ t.dlarm = false ∧ t.dlexp = false ∧ t.rxlen = 0 ∧ t.rxovf = false ∧
    t.decin = 0 ∧ t.decout = 0 ∧ t.cerr = .ok ∧ t.cerrs = false ∧
    ∀ a, t.readPort a = if a = 0x04 then s.rxcap.zeroExtend 32 <<< 16 else 0

/-- R251: a reset aborts a transaction whatever STEP was, sends and drains nothing, and the next ADV is refused with NOFRAME;
bytes that arrive afterwards stay in CHRX behind those already there. -/
def Obligations.ResetAbortsTheTransaction : Prop :=
  ∀ (s : State) (first : Byte) (rest : List Byte), ∃ t u v,
    react .reset s = .next t ∧ t.stepIdx = 0 ∧ t.outcome = .idle ∧ t.txlog = s.txlog ∧ t.chrx = s.chrx ∧
    react (.arrival first rest) t = .next u ∧ u.chrx = s.chrx ++ first :: rest ∧
    exec .adv u = .next v ∧ v = { u with cerr := .noframe, cerrs := true }

/-! ## The read port -/

/-- R46 to R50: every field of STATUS reflects the state element named, with the element's code, and so do the fields of CRC,
RESULT, DEC and LEN; reserved bits read 0; the reset values are 0 and, for LEN, RXCAP << 16. -/
def Obligations.StatusAndResultRegisters : Prop :=
  (∀ s : State, let r := s.readPort 0x00
    (r.extractLsb' 0 3 = match s.outcome with
      | .idle => 0 | .processing => 1 | .success => 2 | .failed => 3 | .timedOut => 4) ∧
    r.extractLsb' 3 1 = 0 ∧ r.extractLsb' 4 6 = s.stepIdx ∧
    (r.extractLsb' 10 2 = match s.fkind with | .none => 0 | .read => 1 | .write => 2) ∧
    r.getLsbD 12 = s.dr ∧ r.getLsbD 13 = s.dlarm ∧ r.getLsbD 14 = s.dlexp ∧ r.getLsbD 15 = s.rxovf ∧
    (r.extractLsb' 16 4 = match s.diag with
      | .none => 0 | .badAck => 1 | .empty => 2 | .decode => 3 | .timeoutP1 => 4 | .timeoutP2 => 5 | .timeoutP3 => 6) ∧
    (r.extractLsb' 20 3 = match s.cerr with | .ok => 0 | .illegal => 1 | .range => 2 | .busy => 3 | .noframe => 4) ∧
    r.getLsbD 23 = s.cerrs ∧ r.extractLsb' 24 8 = 0) ∧
  (∀ s : State,
    s.readPort 0x01 = s.crcr.zeroExtend 32 ∧
    s.readPort 0x02 = s.result.zeroExtend 32 ∧
    ((s.readPort 0x03).extractLsb' 0 4 = s.decout ∧ (s.readPort 0x03).extractLsb' 4 12 = 0 ∧
      (s.readPort 0x03).extractLsb' 16 16 = s.decin) ∧
    ((s.readPort 0x04).extractLsb' 0 4 = s.flen ∧ (s.readPort 0x04).extractLsb' 4 4 = 0 ∧
      (s.readPort 0x04).extractLsb' 8 8 = s.rxlen ∧ (s.readPort 0x04).extractLsb' 16 8 = s.rxcap ∧
      (s.readPort 0x04).extractLsb' 24 8 = 0)) ∧
  ∀ s : State,
    s.blockReset.readPort 0x00 = 0 ∧ s.blockReset.readPort 0x01 = 0 ∧ s.blockReset.readPort 0x02 = 0 ∧
    s.blockReset.readPort 0x03 = 0 ∧ s.blockReset.readPort 0x04 = s.rxcap.zeroExtend 32 <<< 16

/-- R51, R52 with R64: byte 4k+j of FB is bits [8j+7:8j] of register 0x08 + k, the two bytes past FB[13] reading 0, and byte
4k+j of RXB is bits [8j+7:8j] of register 0x10 + k, 0 at and past RXCAP; all of them reset to 0. -/
def Obligations.BufferRegistersLayout : Prop :=
  ∀ (s : State) (j : Nat), j < 4 →
    (∀ k, k < 4 → ((s.readPort (BitVec.ofNat 8 (0x08 + k))).extractLsb' (8 * j) 8 =
      if h : 4 * k + j < 14 then s.fb[4 * k + j] else 0) ∧ s.blockReset.readPort (BitVec.ofNat 8 (0x08 + k)) = 0) ∧
    (∀ k, k < (s.rxcap.toNat + 3) / 4 → ((s.readPort (BitVec.ofNat 8 (0x10 + k))).extractLsb' (8 * j) 8 =
      if 4 * k + j < s.rxcap.toNat then s.rxb.getD (4 * k + j) 0 else 0) ∧
      s.blockReset.readPort (BitVec.ofNat 8 (0x10 + k)) = 0)

/-- R45, R53, R54: a reserved register number reads 0; and the read port shows nothing of CHRX, of TXLOG or of the moves to
come. -/
def Obligations.ReadPortHidesTheRest : Prop :=
  (∀ (s : State) (a : Byte), (0x05 ≤ a.toNat ∧ a.toNat ≤ 0x07) ∨ (0x0C ≤ a.toNat ∧ a.toNat ≤ 0x0F) ∨
    0x10 + (s.rxcap.toNat + 3) / 4 ≤ a.toNat → s.readPort a = 0) ∧
  ∀ (s : State) (a : Byte) (chrx txlog : List Byte) (inputs : List Input),
    { s with chrx := chrx, txlog := txlog, inputs := inputs }.readPort a = s.readPort a

/-! ## The checksum -/

/-- R110 to R112, as R110's own loop: no iteration gives 0, and one more word shifts its 16 bits in, bit 15 first, each by
the carry test, the shift, the OR of the data bit and the XOR of 0x1021. -/
def Obligations.CrcIsTheBitSerialLoop : Prop :=
  (∀ buf, crc16 buf 0 = 0x0000) ∧
  (∀ (buf : List Byte) (n : Nat), 2 * n + 2 ≤ buf.length →
    crc16 buf (n + 1) = ([15, 14, 13, 12, 11, 10, 9, 8, 7, 6, 5, 4, 3, 2, 1, 0] : List Nat).foldl
      (fun r k => crcBit r ((buf.getD (2 * n) 0 ++ buf.getD (2 * n + 1) 0 : Half).getLsbD k)) (crc16 buf n)) ∧
  ∀ (r : Half) (bit : Bool),
    crcBit r bit = ((r <<< 1) ||| (if bit then 0x0001 else 0x0000)) ^^^ (if r.getLsbD 15 then 0x1021 else 0x0000)

/-- R120: the golden vector. -/
def Obligations.GoldenChecksum : Prop :=
  crc16 [0x10, 0x01, 0x41, 0x60, 0x00, 0x02, 0x00, 0x00] 4 = 0x13D4 ∧
  ∀ s : State, s.stepIdx = 0 → ∃ t, exec (.buildr 0x6041 0) s = .next t ∧ t.fbAt 6 = 0xD4 ∧ t.fbAt 7 = 0x13

/-- R114: CRC16 reads only the first 2n bytes: bytes at index 2n and above never affect the result. -/
def Obligations.CrcReadsOnlyItsWords : Prop :=
  ∀ (buf other : List Byte) (n : Nat), buf.take (2 * n) = other.take (2 * n) → crc16 buf n = crc16 other n

/-- R115: CRC16(buf, n) is the remainder of the message polynomial by P(x) = x^16 + x^12 + x^5 + 1 over GF(2), the first bit
of the stream being the highest power x^(16n-1). -/
def Obligations.CrcIsPolynomialRemainder : Prop :=
  ∀ (buf : List Byte) (n : Nat), 2 * n ≤ buf.length →
    (∑ k ∈ Finset.range 16, if (crc16 buf n).getLsbD k then Polynomial.X ^ k else 0 : Polynomial (ZMod 2)) =
    (∑ i ∈ Finset.range n, ∑ k ∈ Finset.range 16,
      if (buf.getD (2 * i) 0 ++ buf.getD (2 * i + 1) 0 : Half).getLsbD k then Polynomial.X ^ (16 * (n - 1 - i) + k)
      else 0 : Polynomial (ZMod 2)) %ₘ (Polynomial.X ^ 16 + Polynomial.X ^ 12 + Polynomial.X ^ 5 + 1)

/-- R116 item 4: the CRC of a bytewise XOR is the XOR of the CRCs. -/
def Obligations.CrcIsLinear : Prop :=
  ∀ (a b : List Byte) (n : Nat), a.length = b.length → 2 * n ≤ a.length →
    crc16 (List.zipWith (· ^^^ ·) a b) n = crc16 a n ^^^ crc16 b n

/-- R116 items 1, 2, 3, 5 and 7: no word, one word, zero words, leading zero words, and a message followed by the CRC it has
with a zero word, high byte first, which gives 0. -/
def Obligations.CrcCornersAndResidue : Prop :=
  (∀ buf, crc16 buf 0 = 0x0000) ∧
  (∀ (b0 b1 : Byte) (rest : List Byte), crc16 (b0 :: b1 :: rest) 1 = b0 ++ b1) ∧
  (∀ n, crc16 (List.replicate (2 * n) 0) n = 0x0000) ∧
  (∀ (a : List Byte) (n : Nat), 2 * n ≤ a.length → crc16 ([0, 0] ++ a) (n + 1) = crc16 a n) ∧
  ∀ (m : List Byte) (n : Nat), m.length = 2 * n →
    let c := crc16 (m ++ [0x00, 0x00]) (n + 1)
    crc16 (m ++ [c.extractLsb' 8 8, c.extractLsb' 0 8]) (n + 1) = 0x0000

/-! ## Invariants and whole runs -/

/-- The state right after reset satisfies the invariant, and so does the state a reset move gives from any state with a legal
RXCAP. -/
def Obligations.ResetSatisfiesTheInvariant : Prop :=
  State.reset.Inv ∧ ∀ s t : State, 7 ≤ s.rxcap.toNat → react .reset s = .next t → t.Inv

/-- Every step from a state that satisfies the invariant gives a state that satisfies it: STEP legal, STEP != 0 iff
Processing, FLEN fits FKIND, DIAG fits STEP and OUTCOME, RXB of RXCAP bytes and zero past RXLEN, DLEXP only while armed, a
poll step armed, bit 7 of RESULT clear, DECOUT a table code, an error recorded in CERRS, DR only with bytes in CHRX, DIAG
never EMPTY. -/
def Obligations.EveryStepKeepsTheInvariant : Prop :=
  ∀ s t : State, s.Inv → step s = .next t → t.Inv

/-- No reachable state stops: from a state that satisfies the invariant every move of every agent answers a next state, and so
does a step, also with no move listed, where the state stays as it is (the model's choice, log entry 1). -/
def Obligations.EveryMoveCompletes : Prop :=
  ∀ s : State, s.Inv → (∀ move, ∃ t, react move s = .next t) ∧ ∃ t, step s = .next t

/-- R32: STEP != 0 if and only if OUTCOME = Processing, at reset and after every move from any state that has it. -/
def Obligations.ProcessingExactlyWhileInProgress : Prop :=
  (State.reset.stepIdx ≠ 0 ↔ State.reset.outcome = .processing) ∧
  ∀ (move : Input) (s t : State), (s.stepIdx ≠ 0 ↔ s.outcome = .processing) → react move s = .next t →
    (t.stepIdx ≠ 0 ↔ t.outcome = .processing)

/-- R71: each move completes before the next is taken: a step at a time, the machine performs its moves in the order they are
listed, and its state after them is the one the moves alone give. -/
def Obligations.MovesArePerformedInOrder : Prop :=
  ∀ (moves : List Input) (s t : State), perform moves s = .next t →
    Host.Core.run core moves.length { s with inputs := moves ++ s.inputs } = .next t

/-- R172, R173, on one schedule: a write-transaction in which the device makes exactly one arrival (any non-empty bytes)
between each of the sends of steps 1, 4 and 7 and the ADV that polls for it, no other event comes between the ADVs, and the
second arrival starts with 0x4F, reaches Success in exactly 12 ADVs and has sent FB[0], FB[1..11], FB[12] and FB[12], 14
bytes, whatever else the three arrivals hold and whatever CHRX, DR and DLEXP held before. -/
def Obligations.PromptWriteSucceedsInTwelveAdvs : Prop :=
  ∀ (s : State) (a c : Byte) (as bs cs : List Byte), s.fkind = .write → s.flen = 14 → s.stepIdx = 0 → 7 ≤ s.rxcap.toNat →
    let adv := Input.command advWord
    ∃ t, perform [adv, adv, .arrival a as, adv, adv, adv, .arrival 0x4F bs, adv, adv, adv, .arrival c cs, adv, adv, adv,
        adv] s = .next t ∧
      t.outcome = .success ∧ t.stepIdx = 0 ∧ t.diag = .none ∧ t.cerr = .ok ∧ t.fb = s.fb ∧ t.chrx = [] ∧ t.dr = false ∧
      t.txlog = s.txlog ++ s.fb.toList.take 12 ++ [s.fb[12], s.fb[12]]

/-- R172, R173, R180, on one schedule: a read-transaction in which the device makes exactly one arrival between each of the
sends of steps 1, 4 and 7 and the ADV that polls for it, no other event comes between the ADVs, the second arrival starts with
0x4F and the third holds at least 7 bytes, reaches Success in exactly 12 ADVs with RESULT decoded from bytes 5 and 6, and has
sent FB[0], FB[1..7], FB[8] and FB[8], 10 bytes. -/
def Obligations.PromptReadSucceedsInTwelveAdvs : Prop :=
  ∀ (s : State) (a c0 c1 c2 c3 c4 c5 c6 : Byte) (as bs cs : List Byte),
    s.fkind = .read → s.flen = 10 → s.stepIdx = 0 → 7 ≤ s.rxcap.toNat →
    let adv := Input.command advWord
    ∃ t, perform [adv, adv, .arrival a as, adv, adv, adv, .arrival 0x4F bs, adv, adv, adv,
        .arrival c0 (c1 :: c2 :: c3 :: c4 :: c5 :: c6 :: cs), adv, adv, adv, adv] s = .next t ∧
      t.outcome = .success ∧ t.stepIdx = 0 ∧ t.diag = .none ∧ t.cerr = .ok ∧ t.fb = s.fb ∧ t.chrx = [] ∧ t.dr = false ∧
      t.result = (c6.zeroExtend 16 <<< 8) + (c5.zeroExtend 16 &&& 0x417F) ∧
      t.txlog = s.txlog ++ s.fb.toList.take 8 ++ [s.fb[8], s.fb[8]]

/-- R176: each cause of failure, with the step that detects it, the DIAG code it leaves and the outcome the next ADV records:
a deadline that expires with no data-ready, a wrong first byte, no byte, a read response shorter than 7 bytes. -/
def Obligations.FailuresAreRecorded : Prop :=
  ∀ s : State, s.fkind ≠ .none → 7 ≤ s.rxcap.toNat →
    let adv := Input.command advWord
    (∀ (here : BitVec 6) (code : Diag),
      (here, code) ∈ [((2 : BitVec 6), Diag.timeoutP1), (5, .timeoutP2), (8, .timeoutP3)] →
      s.stepIdx = here → s.dr = false → s.dlarm = true →
      ∃ t, perform [.expiry, adv, adv] s = .next t ∧ t.outcome = .timedOut ∧ t.diag = code ∧ t.stepIdx = 0) ∧
    (s.stepIdx = 6 → ∀ first rest, s.chrx = first :: rest → first ≠ 0x4F →
      ∃ t, perform [adv, adv] s = .next t ∧ t.outcome = .failed ∧ t.diag = .badAck ∧ t.stepIdx = 0) ∧
    (s.stepIdx = 6 → s.chrx = [] →
      ∃ t, perform [adv, adv] s = .next t ∧ t.outcome = .failed ∧ t.diag = .empty ∧ t.stepIdx = 0) ∧
    (s.stepIdx = 9 → s.fkind = .read → s.chrx.length < 7 →
      ∃ t, perform [adv, adv] s = .next t ∧ t.outcome = .failed ∧ t.diag = .decode ∧ t.stepIdx = 0)

/-- R174, R259: after a terminal step the frame is unchanged and one more ADV performs step 0 of the same transaction again,
and the next sends FB[0] a second time. -/
def Obligations.AdvAfterTerminalRestarts : Prop :=
  ∀ s : State, s.fkind ≠ .none → s.stepIdx = 20 ∨ s.stepIdx = 30 ∨ s.stepIdx = 40 →
    let adv := Input.command advWord
    ∃ t u, perform [adv] s = .next t ∧ t.stepIdx = 0 ∧ t.fb = s.fb ∧ t.outcome.terminal = true ∧
      perform [adv, adv] t = .next u ∧ u.stepIdx = 2 ∧ u.outcome = .processing ∧ u.fb = s.fb ∧
      u.txlog = s.txlog ++ [s.fbAt 0]

/-- R242 with R151 and R177: on every endless interleaving without reset in which the host keeps issuing ADV and the expiry
event is weakly fair, a transaction in progress ends: STEP returns to 0 with a terminal outcome, whatever the transport
does. -/
def Obligations.EveryTransactionEnds : Prop :=
  ∀ (at_ : Nat → State) (move : Nat → Input), (at_ 0).Inv → IsRun at_ move → (∀ k, move k ≠ .reset) →
    HostKeepsAdvancing move → FairExpiry at_ move → (at_ 0).inProgress →
    ∃ k, (at_ k).stepIdx = 0 ∧ (at_ k).outcome.terminal = true
end

