-- ==== Sys2Proof/Laws/State.lean ====
section
/-! SUPPORT. One lemma per field per update of State, so that no later proof unfolds a record update. -/

namespace Sys2Proof.Machine

variable (s : State)

@[simp] theorem State.setStatus_rxcap (code : CmdStatus) : (s.setStatus code).rxcap = s.rxcap := rfl
@[simp] theorem State.setStatus_fb (code : CmdStatus) : (s.setStatus code).fb = s.fb := rfl
@[simp] theorem State.setStatus_flen (code : CmdStatus) : (s.setStatus code).flen = s.flen := rfl
@[simp] theorem State.setStatus_fkind (code : CmdStatus) : (s.setStatus code).fkind = s.fkind := rfl
@[simp] theorem State.setStatus_crcr (code : CmdStatus) : (s.setStatus code).crcr = s.crcr := rfl
@[simp] theorem State.setStatus_stepIdx (code : CmdStatus) : (s.setStatus code).stepIdx = s.stepIdx := rfl
@[simp] theorem State.setStatus_outcome (code : CmdStatus) : (s.setStatus code).outcome = s.outcome := rfl
@[simp] theorem State.setStatus_diag (code : CmdStatus) : (s.setStatus code).diag = s.diag := rfl
@[simp] theorem State.setStatus_result (code : CmdStatus) : (s.setStatus code).result = s.result := rfl
@[simp] theorem State.setStatus_dr (code : CmdStatus) : (s.setStatus code).dr = s.dr := rfl
@[simp] theorem State.setStatus_dlarm (code : CmdStatus) : (s.setStatus code).dlarm = s.dlarm := rfl
@[simp] theorem State.setStatus_dlexp (code : CmdStatus) : (s.setStatus code).dlexp = s.dlexp := rfl
@[simp] theorem State.setStatus_rxb (code : CmdStatus) : (s.setStatus code).rxb = s.rxb := rfl
@[simp] theorem State.setStatus_rxlen (code : CmdStatus) : (s.setStatus code).rxlen = s.rxlen := rfl
@[simp] theorem State.setStatus_rxovf (code : CmdStatus) : (s.setStatus code).rxovf = s.rxovf := rfl
@[simp] theorem State.setStatus_decin (code : CmdStatus) : (s.setStatus code).decin = s.decin := rfl
@[simp] theorem State.setStatus_decout (code : CmdStatus) : (s.setStatus code).decout = s.decout := rfl
@[simp] theorem State.setStatus_cerr (code : CmdStatus) : (s.setStatus code).cerr = code := rfl
@[simp] theorem State.setStatus_cerrs (code : CmdStatus) : (s.setStatus code).cerrs = (s.cerrs || code != .ok) := rfl
@[simp] theorem State.setStatus_chrx (code : CmdStatus) : (s.setStatus code).chrx = s.chrx := rfl
@[simp] theorem State.setStatus_txlog (code : CmdStatus) : (s.setStatus code).txlog = s.txlog := rfl
@[simp] theorem State.setStatus_inputs (code : CmdStatus) : (s.setStatus code).inputs = s.inputs := rfl

@[simp] theorem State.accept_rxcap : (s.accept).rxcap = s.rxcap := rfl
@[simp] theorem State.accept_fb : (s.accept).fb = s.fb := rfl
@[simp] theorem State.accept_flen : (s.accept).flen = s.flen := rfl
@[simp] theorem State.accept_fkind : (s.accept).fkind = s.fkind := rfl
@[simp] theorem State.accept_crcr : (s.accept).crcr = s.crcr := rfl
@[simp] theorem State.accept_stepIdx : (s.accept).stepIdx = s.stepIdx := rfl
@[simp] theorem State.accept_outcome : (s.accept).outcome = s.outcome := rfl
@[simp] theorem State.accept_diag : (s.accept).diag = s.diag := rfl
@[simp] theorem State.accept_result : (s.accept).result = s.result := rfl
@[simp] theorem State.accept_dr : (s.accept).dr = s.dr := rfl
@[simp] theorem State.accept_dlarm : (s.accept).dlarm = s.dlarm := rfl
@[simp] theorem State.accept_dlexp : (s.accept).dlexp = s.dlexp := rfl
@[simp] theorem State.accept_rxb : (s.accept).rxb = s.rxb := rfl
@[simp] theorem State.accept_rxlen : (s.accept).rxlen = s.rxlen := rfl
@[simp] theorem State.accept_rxovf : (s.accept).rxovf = s.rxovf := rfl
@[simp] theorem State.accept_decin : (s.accept).decin = s.decin := rfl
@[simp] theorem State.accept_decout : (s.accept).decout = s.decout := rfl
@[simp] theorem State.accept_cerr : (s.accept).cerr = .ok := rfl
@[simp] theorem State.accept_cerrs : (s.accept).cerrs = s.cerrs := by simp [State.accept, State.setStatus]
@[simp] theorem State.accept_chrx : (s.accept).chrx = s.chrx := rfl
@[simp] theorem State.accept_txlog : (s.accept).txlog = s.txlog := rfl
@[simp] theorem State.accept_inputs : (s.accept).inputs = s.inputs := rfl

@[simp] theorem State.arm_rxcap : (s.arm).rxcap = s.rxcap := rfl
@[simp] theorem State.arm_fb : (s.arm).fb = s.fb := rfl
@[simp] theorem State.arm_flen : (s.arm).flen = s.flen := rfl
@[simp] theorem State.arm_fkind : (s.arm).fkind = s.fkind := rfl
@[simp] theorem State.arm_crcr : (s.arm).crcr = s.crcr := rfl
@[simp] theorem State.arm_stepIdx : (s.arm).stepIdx = s.stepIdx := rfl
@[simp] theorem State.arm_outcome : (s.arm).outcome = s.outcome := rfl
@[simp] theorem State.arm_diag : (s.arm).diag = s.diag := rfl
@[simp] theorem State.arm_result : (s.arm).result = s.result := rfl
@[simp] theorem State.arm_dr : (s.arm).dr = s.dr := rfl
@[simp] theorem State.arm_dlarm : (s.arm).dlarm = true := rfl
@[simp] theorem State.arm_dlexp : (s.arm).dlexp = false := rfl
@[simp] theorem State.arm_rxb : (s.arm).rxb = s.rxb := rfl
@[simp] theorem State.arm_rxlen : (s.arm).rxlen = s.rxlen := rfl
@[simp] theorem State.arm_rxovf : (s.arm).rxovf = s.rxovf := rfl
@[simp] theorem State.arm_decin : (s.arm).decin = s.decin := rfl
@[simp] theorem State.arm_decout : (s.arm).decout = s.decout := rfl
@[simp] theorem State.arm_cerr : (s.arm).cerr = s.cerr := rfl
@[simp] theorem State.arm_cerrs : (s.arm).cerrs = s.cerrs := rfl
@[simp] theorem State.arm_chrx : (s.arm).chrx = s.chrx := rfl
@[simp] theorem State.arm_txlog : (s.arm).txlog = s.txlog := rfl
@[simp] theorem State.arm_inputs : (s.arm).inputs = s.inputs := rfl

@[simp] theorem State.disarm_rxcap : (s.disarm).rxcap = s.rxcap := rfl
@[simp] theorem State.disarm_fb : (s.disarm).fb = s.fb := rfl
@[simp] theorem State.disarm_flen : (s.disarm).flen = s.flen := rfl
@[simp] theorem State.disarm_fkind : (s.disarm).fkind = s.fkind := rfl
@[simp] theorem State.disarm_crcr : (s.disarm).crcr = s.crcr := rfl
@[simp] theorem State.disarm_stepIdx : (s.disarm).stepIdx = s.stepIdx := rfl
@[simp] theorem State.disarm_outcome : (s.disarm).outcome = s.outcome := rfl
@[simp] theorem State.disarm_diag : (s.disarm).diag = s.diag := rfl
@[simp] theorem State.disarm_result : (s.disarm).result = s.result := rfl
@[simp] theorem State.disarm_dr : (s.disarm).dr = s.dr := rfl
@[simp] theorem State.disarm_dlarm : (s.disarm).dlarm = false := rfl
@[simp] theorem State.disarm_dlexp : (s.disarm).dlexp = false := rfl
@[simp] theorem State.disarm_rxb : (s.disarm).rxb = s.rxb := rfl
@[simp] theorem State.disarm_rxlen : (s.disarm).rxlen = s.rxlen := rfl
@[simp] theorem State.disarm_rxovf : (s.disarm).rxovf = s.rxovf := rfl
@[simp] theorem State.disarm_decin : (s.disarm).decin = s.decin := rfl
@[simp] theorem State.disarm_decout : (s.disarm).decout = s.decout := rfl
@[simp] theorem State.disarm_cerr : (s.disarm).cerr = s.cerr := rfl
@[simp] theorem State.disarm_cerrs : (s.disarm).cerrs = s.cerrs := rfl
@[simp] theorem State.disarm_chrx : (s.disarm).chrx = s.chrx := rfl
@[simp] theorem State.disarm_txlog : (s.disarm).txlog = s.txlog := rfl
@[simp] theorem State.disarm_inputs : (s.disarm).inputs = s.inputs := rfl

@[simp] theorem State.raiseCmdError_rxcap (code : CmdStatus) : (s.raiseCmdError code).rxcap = s.rxcap := rfl
@[simp] theorem State.raiseCmdError_fb (code : CmdStatus) : (s.raiseCmdError code).fb = s.fb := rfl
@[simp] theorem State.raiseCmdError_flen (code : CmdStatus) : (s.raiseCmdError code).flen = s.flen := rfl
@[simp] theorem State.raiseCmdError_fkind (code : CmdStatus) : (s.raiseCmdError code).fkind = s.fkind := rfl
@[simp] theorem State.raiseCmdError_crcr (code : CmdStatus) : (s.raiseCmdError code).crcr = s.crcr := rfl
@[simp] theorem State.raiseCmdError_stepIdx (code : CmdStatus) : (s.raiseCmdError code).stepIdx = s.stepIdx := rfl
@[simp] theorem State.raiseCmdError_outcome (code : CmdStatus) : (s.raiseCmdError code).outcome = s.outcome := rfl
@[simp] theorem State.raiseCmdError_diag (code : CmdStatus) : (s.raiseCmdError code).diag = s.diag := rfl
@[simp] theorem State.raiseCmdError_result (code : CmdStatus) : (s.raiseCmdError code).result = s.result := rfl
@[simp] theorem State.raiseCmdError_dr (code : CmdStatus) : (s.raiseCmdError code).dr = s.dr := rfl
@[simp] theorem State.raiseCmdError_dlarm (code : CmdStatus) : (s.raiseCmdError code).dlarm = s.dlarm := rfl
@[simp] theorem State.raiseCmdError_dlexp (code : CmdStatus) : (s.raiseCmdError code).dlexp = s.dlexp := rfl
@[simp] theorem State.raiseCmdError_rxb (code : CmdStatus) : (s.raiseCmdError code).rxb = s.rxb := rfl
@[simp] theorem State.raiseCmdError_rxlen (code : CmdStatus) : (s.raiseCmdError code).rxlen = s.rxlen := rfl
@[simp] theorem State.raiseCmdError_rxovf (code : CmdStatus) : (s.raiseCmdError code).rxovf = s.rxovf := rfl
@[simp] theorem State.raiseCmdError_decin (code : CmdStatus) : (s.raiseCmdError code).decin = s.decin := rfl
@[simp] theorem State.raiseCmdError_decout (code : CmdStatus) : (s.raiseCmdError code).decout = s.decout := rfl
@[simp] theorem State.raiseCmdError_cerr (code : CmdStatus) : (s.raiseCmdError code).cerr = code := rfl
@[simp] theorem State.raiseCmdError_cerrs (code : CmdStatus) : (s.raiseCmdError code).cerrs = true := rfl
@[simp] theorem State.raiseCmdError_chrx (code : CmdStatus) : (s.raiseCmdError code).chrx = s.chrx := rfl
@[simp] theorem State.raiseCmdError_txlog (code : CmdStatus) : (s.raiseCmdError code).txlog = s.txlog := rfl
@[simp] theorem State.raiseCmdError_inputs (code : CmdStatus) : (s.raiseCmdError code).inputs = s.inputs := rfl

@[simp] theorem State.finish_rxcap (o : TxnOutcome) : (s.finish o).rxcap = s.rxcap := rfl
@[simp] theorem State.finish_fb (o : TxnOutcome) : (s.finish o).fb = s.fb := rfl
@[simp] theorem State.finish_flen (o : TxnOutcome) : (s.finish o).flen = s.flen := rfl
@[simp] theorem State.finish_fkind (o : TxnOutcome) : (s.finish o).fkind = s.fkind := rfl
@[simp] theorem State.finish_crcr (o : TxnOutcome) : (s.finish o).crcr = s.crcr := rfl
@[simp] theorem State.finish_stepIdx (o : TxnOutcome) : (s.finish o).stepIdx = 0 := rfl
@[simp] theorem State.finish_outcome (o : TxnOutcome) : (s.finish o).outcome = o := rfl
@[simp] theorem State.finish_diag (o : TxnOutcome) : (s.finish o).diag = s.diag := rfl
@[simp] theorem State.finish_result (o : TxnOutcome) : (s.finish o).result = s.result := rfl
@[simp] theorem State.finish_dr (o : TxnOutcome) : (s.finish o).dr = s.dr := rfl
@[simp] theorem State.finish_dlarm (o : TxnOutcome) : (s.finish o).dlarm = false := rfl
@[simp] theorem State.finish_dlexp (o : TxnOutcome) : (s.finish o).dlexp = false := rfl
@[simp] theorem State.finish_rxb (o : TxnOutcome) : (s.finish o).rxb = s.rxb := rfl
@[simp] theorem State.finish_rxlen (o : TxnOutcome) : (s.finish o).rxlen = s.rxlen := rfl
@[simp] theorem State.finish_rxovf (o : TxnOutcome) : (s.finish o).rxovf = s.rxovf := rfl
@[simp] theorem State.finish_decin (o : TxnOutcome) : (s.finish o).decin = s.decin := rfl
@[simp] theorem State.finish_decout (o : TxnOutcome) : (s.finish o).decout = s.decout := rfl
@[simp] theorem State.finish_cerr (o : TxnOutcome) : (s.finish o).cerr = s.cerr := rfl
@[simp] theorem State.finish_cerrs (o : TxnOutcome) : (s.finish o).cerrs = s.cerrs := rfl
@[simp] theorem State.finish_chrx (o : TxnOutcome) : (s.finish o).chrx = s.chrx := rfl
@[simp] theorem State.finish_txlog (o : TxnOutcome) : (s.finish o).txlog = s.txlog := rfl
@[simp] theorem State.finish_inputs (o : TxnOutcome) : (s.finish o).inputs = s.inputs := rfl

@[simp] theorem State.goto_rxcap (k : BitVec 6) : (s.goto k).rxcap = s.rxcap := rfl
@[simp] theorem State.goto_fb (k : BitVec 6) : (s.goto k).fb = s.fb := rfl
@[simp] theorem State.goto_flen (k : BitVec 6) : (s.goto k).flen = s.flen := rfl
@[simp] theorem State.goto_fkind (k : BitVec 6) : (s.goto k).fkind = s.fkind := rfl
@[simp] theorem State.goto_crcr (k : BitVec 6) : (s.goto k).crcr = s.crcr := rfl
@[simp] theorem State.goto_stepIdx (k : BitVec 6) : (s.goto k).stepIdx = k := rfl
@[simp] theorem State.goto_outcome (k : BitVec 6) : (s.goto k).outcome = s.outcome := rfl
@[simp] theorem State.goto_diag (k : BitVec 6) : (s.goto k).diag = s.diag := rfl
@[simp] theorem State.goto_result (k : BitVec 6) : (s.goto k).result = s.result := rfl
@[simp] theorem State.goto_dr (k : BitVec 6) : (s.goto k).dr = s.dr := rfl
@[simp] theorem State.goto_dlarm (k : BitVec 6) : (s.goto k).dlarm = s.dlarm := rfl
@[simp] theorem State.goto_dlexp (k : BitVec 6) : (s.goto k).dlexp = s.dlexp := rfl
@[simp] theorem State.goto_rxb (k : BitVec 6) : (s.goto k).rxb = s.rxb := rfl
@[simp] theorem State.goto_rxlen (k : BitVec 6) : (s.goto k).rxlen = s.rxlen := rfl
@[simp] theorem State.goto_rxovf (k : BitVec 6) : (s.goto k).rxovf = s.rxovf := rfl
@[simp] theorem State.goto_decin (k : BitVec 6) : (s.goto k).decin = s.decin := rfl
@[simp] theorem State.goto_decout (k : BitVec 6) : (s.goto k).decout = s.decout := rfl
@[simp] theorem State.goto_cerr (k : BitVec 6) : (s.goto k).cerr = s.cerr := rfl
@[simp] theorem State.goto_cerrs (k : BitVec 6) : (s.goto k).cerrs = s.cerrs := rfl
@[simp] theorem State.goto_chrx (k : BitVec 6) : (s.goto k).chrx = s.chrx := rfl
@[simp] theorem State.goto_txlog (k : BitVec 6) : (s.goto k).txlog = s.txlog := rfl
@[simp] theorem State.goto_inputs (k : BitVec 6) : (s.goto k).inputs = s.inputs := rfl

@[simp] theorem State.jumpWith_rxcap (code : Diag) (k : BitVec 6) : (s.jumpWith code k).rxcap = s.rxcap := rfl
@[simp] theorem State.jumpWith_fb (code : Diag) (k : BitVec 6) : (s.jumpWith code k).fb = s.fb := rfl
@[simp] theorem State.jumpWith_flen (code : Diag) (k : BitVec 6) : (s.jumpWith code k).flen = s.flen := rfl
@[simp] theorem State.jumpWith_fkind (code : Diag) (k : BitVec 6) : (s.jumpWith code k).fkind = s.fkind := rfl
@[simp] theorem State.jumpWith_crcr (code : Diag) (k : BitVec 6) : (s.jumpWith code k).crcr = s.crcr := rfl
@[simp] theorem State.jumpWith_stepIdx (code : Diag) (k : BitVec 6) : (s.jumpWith code k).stepIdx = k := rfl
@[simp] theorem State.jumpWith_outcome (code : Diag) (k : BitVec 6) : (s.jumpWith code k).outcome = s.outcome := rfl
@[simp] theorem State.jumpWith_diag (code : Diag) (k : BitVec 6) : (s.jumpWith code k).diag = code := rfl
@[simp] theorem State.jumpWith_result (code : Diag) (k : BitVec 6) : (s.jumpWith code k).result = s.result := rfl
@[simp] theorem State.jumpWith_dr (code : Diag) (k : BitVec 6) : (s.jumpWith code k).dr = s.dr := rfl
@[simp] theorem State.jumpWith_dlarm (code : Diag) (k : BitVec 6) : (s.jumpWith code k).dlarm = s.dlarm := rfl
@[simp] theorem State.jumpWith_dlexp (code : Diag) (k : BitVec 6) : (s.jumpWith code k).dlexp = s.dlexp := rfl
@[simp] theorem State.jumpWith_rxb (code : Diag) (k : BitVec 6) : (s.jumpWith code k).rxb = s.rxb := rfl
@[simp] theorem State.jumpWith_rxlen (code : Diag) (k : BitVec 6) : (s.jumpWith code k).rxlen = s.rxlen := rfl
@[simp] theorem State.jumpWith_rxovf (code : Diag) (k : BitVec 6) : (s.jumpWith code k).rxovf = s.rxovf := rfl
@[simp] theorem State.jumpWith_decin (code : Diag) (k : BitVec 6) : (s.jumpWith code k).decin = s.decin := rfl
@[simp] theorem State.jumpWith_decout (code : Diag) (k : BitVec 6) : (s.jumpWith code k).decout = s.decout := rfl
@[simp] theorem State.jumpWith_cerr (code : Diag) (k : BitVec 6) : (s.jumpWith code k).cerr = s.cerr := rfl
@[simp] theorem State.jumpWith_cerrs (code : Diag) (k : BitVec 6) : (s.jumpWith code k).cerrs = s.cerrs := rfl
@[simp] theorem State.jumpWith_chrx (code : Diag) (k : BitVec 6) : (s.jumpWith code k).chrx = s.chrx := rfl
@[simp] theorem State.jumpWith_txlog (code : Diag) (k : BitVec 6) : (s.jumpWith code k).txlog = s.txlog := rfl
@[simp] theorem State.jumpWith_inputs (code : Diag) (k : BitVec 6) : (s.jumpWith code k).inputs = s.inputs := rfl

@[simp] theorem State.send_rxcap (bytes : List Byte) : (s.send bytes).rxcap = s.rxcap := rfl
@[simp] theorem State.send_fb (bytes : List Byte) : (s.send bytes).fb = s.fb := rfl
@[simp] theorem State.send_flen (bytes : List Byte) : (s.send bytes).flen = s.flen := rfl
@[simp] theorem State.send_fkind (bytes : List Byte) : (s.send bytes).fkind = s.fkind := rfl
@[simp] theorem State.send_crcr (bytes : List Byte) : (s.send bytes).crcr = s.crcr := rfl
@[simp] theorem State.send_stepIdx (bytes : List Byte) : (s.send bytes).stepIdx = s.stepIdx := rfl
@[simp] theorem State.send_outcome (bytes : List Byte) : (s.send bytes).outcome = s.outcome := rfl
@[simp] theorem State.send_diag (bytes : List Byte) : (s.send bytes).diag = s.diag := rfl
@[simp] theorem State.send_result (bytes : List Byte) : (s.send bytes).result = s.result := rfl
@[simp] theorem State.send_dr (bytes : List Byte) : (s.send bytes).dr = s.dr := rfl
@[simp] theorem State.send_dlarm (bytes : List Byte) : (s.send bytes).dlarm = s.dlarm := rfl
@[simp] theorem State.send_dlexp (bytes : List Byte) : (s.send bytes).dlexp = s.dlexp := rfl
@[simp] theorem State.send_rxb (bytes : List Byte) : (s.send bytes).rxb = s.rxb := rfl
@[simp] theorem State.send_rxlen (bytes : List Byte) : (s.send bytes).rxlen = s.rxlen := rfl
@[simp] theorem State.send_rxovf (bytes : List Byte) : (s.send bytes).rxovf = s.rxovf := rfl
@[simp] theorem State.send_decin (bytes : List Byte) : (s.send bytes).decin = s.decin := rfl
@[simp] theorem State.send_decout (bytes : List Byte) : (s.send bytes).decout = s.decout := rfl
@[simp] theorem State.send_cerr (bytes : List Byte) : (s.send bytes).cerr = s.cerr := rfl
@[simp] theorem State.send_cerrs (bytes : List Byte) : (s.send bytes).cerrs = s.cerrs := rfl
@[simp] theorem State.send_chrx (bytes : List Byte) : (s.send bytes).chrx = s.chrx := rfl
@[simp] theorem State.send_txlog (bytes : List Byte) : (s.send bytes).txlog = s.txlog ++ bytes := rfl
@[simp] theorem State.send_inputs (bytes : List Byte) : (s.send bytes).inputs = s.inputs := rfl

@[simp] theorem State.drainStore_rxcap : (s.drainStore).rxcap = s.rxcap := rfl
@[simp] theorem State.drainStore_fb : (s.drainStore).fb = s.fb := rfl
@[simp] theorem State.drainStore_flen : (s.drainStore).flen = s.flen := rfl
@[simp] theorem State.drainStore_fkind : (s.drainStore).fkind = s.fkind := rfl
@[simp] theorem State.drainStore_crcr : (s.drainStore).crcr = s.crcr := rfl
@[simp] theorem State.drainStore_stepIdx : (s.drainStore).stepIdx = s.stepIdx := rfl
@[simp] theorem State.drainStore_outcome : (s.drainStore).outcome = s.outcome := rfl
@[simp] theorem State.drainStore_diag : (s.drainStore).diag = s.diag := rfl
@[simp] theorem State.drainStore_result : (s.drainStore).result = s.result := rfl
@[simp] theorem State.drainStore_dr : (s.drainStore).dr = false := rfl
@[simp] theorem State.drainStore_dlarm : (s.drainStore).dlarm = s.dlarm := rfl
@[simp] theorem State.drainStore_dlexp : (s.drainStore).dlexp = s.dlexp := rfl
@[simp] theorem State.drainStore_rxlen : (s.drainStore).rxlen = BitVec.ofNat 8 (min s.chrx.length s.rxcap.toNat) := rfl
@[simp] theorem State.drainStore_rxovf : (s.drainStore).rxovf = decide (s.rxcap.toNat < s.chrx.length) := rfl
@[simp] theorem State.drainStore_decin : (s.drainStore).decin = s.decin := rfl
@[simp] theorem State.drainStore_decout : (s.drainStore).decout = s.decout := rfl
@[simp] theorem State.drainStore_cerr : (s.drainStore).cerr = s.cerr := rfl
@[simp] theorem State.drainStore_cerrs : (s.drainStore).cerrs = s.cerrs := rfl
@[simp] theorem State.drainStore_chrx : (s.drainStore).chrx = [] := rfl
@[simp] theorem State.drainStore_txlog : (s.drainStore).txlog = s.txlog := rfl
@[simp] theorem State.drainStore_inputs : (s.drainStore).inputs = s.inputs := rfl

@[simp] theorem State.drainDiscard_rxcap : (s.drainDiscard).rxcap = s.rxcap := rfl
@[simp] theorem State.drainDiscard_fb : (s.drainDiscard).fb = s.fb := rfl
@[simp] theorem State.drainDiscard_flen : (s.drainDiscard).flen = s.flen := rfl
@[simp] theorem State.drainDiscard_fkind : (s.drainDiscard).fkind = s.fkind := rfl
@[simp] theorem State.drainDiscard_crcr : (s.drainDiscard).crcr = s.crcr := rfl
@[simp] theorem State.drainDiscard_stepIdx : (s.drainDiscard).stepIdx = s.stepIdx := rfl
@[simp] theorem State.drainDiscard_outcome : (s.drainDiscard).outcome = s.outcome := rfl
@[simp] theorem State.drainDiscard_diag : (s.drainDiscard).diag = s.diag := rfl
@[simp] theorem State.drainDiscard_result : (s.drainDiscard).result = s.result := rfl
@[simp] theorem State.drainDiscard_dr : (s.drainDiscard).dr = false := rfl
@[simp] theorem State.drainDiscard_dlarm : (s.drainDiscard).dlarm = s.dlarm := rfl
@[simp] theorem State.drainDiscard_dlexp : (s.drainDiscard).dlexp = s.dlexp := rfl
@[simp] theorem State.drainDiscard_rxb : (s.drainDiscard).rxb = List.replicate s.rxcap.toNat 0 := rfl
@[simp] theorem State.drainDiscard_rxlen : (s.drainDiscard).rxlen = 0 := rfl
@[simp] theorem State.drainDiscard_rxovf : (s.drainDiscard).rxovf = false := rfl
@[simp] theorem State.drainDiscard_decin : (s.drainDiscard).decin = s.decin := rfl
@[simp] theorem State.drainDiscard_decout : (s.drainDiscard).decout = s.decout := rfl
@[simp] theorem State.drainDiscard_cerr : (s.drainDiscard).cerr = s.cerr := rfl
@[simp] theorem State.drainDiscard_cerrs : (s.drainDiscard).cerrs = s.cerrs := rfl
@[simp] theorem State.drainDiscard_chrx : (s.drainDiscard).chrx = [] := rfl
@[simp] theorem State.drainDiscard_txlog : (s.drainDiscard).txlog = s.txlog := rfl
@[simp] theorem State.drainDiscard_inputs : (s.drainDiscard).inputs = s.inputs := rfl

@[simp] theorem State.arrive_rxcap (first : Byte) (rest : List Byte) : (s.arrive first rest).rxcap = s.rxcap := rfl
@[simp] theorem State.arrive_fb (first : Byte) (rest : List Byte) : (s.arrive first rest).fb = s.fb := rfl
@[simp] theorem State.arrive_flen (first : Byte) (rest : List Byte) : (s.arrive first rest).flen = s.flen := rfl
@[simp] theorem State.arrive_fkind (first : Byte) (rest : List Byte) : (s.arrive first rest).fkind = s.fkind := rfl
@[simp] theorem State.arrive_crcr (first : Byte) (rest : List Byte) : (s.arrive first rest).crcr = s.crcr := rfl
@[simp] theorem State.arrive_stepIdx (first : Byte) (rest : List Byte) : (s.arrive first rest).stepIdx = s.stepIdx := rfl
@[simp] theorem State.arrive_outcome (first : Byte) (rest : List Byte) : (s.arrive first rest).outcome = s.outcome := rfl
@[simp] theorem State.arrive_diag (first : Byte) (rest : List Byte) : (s.arrive first rest).diag = s.diag := rfl
@[simp] theorem State.arrive_result (first : Byte) (rest : List Byte) : (s.arrive first rest).result = s.result := rfl
@[simp] theorem State.arrive_dr (first : Byte) (rest : List Byte) : (s.arrive first rest).dr = true := rfl
@[simp] theorem State.arrive_dlarm (first : Byte) (rest : List Byte) : (s.arrive first rest).dlarm = s.dlarm := rfl
@[simp] theorem State.arrive_dlexp (first : Byte) (rest : List Byte) : (s.arrive first rest).dlexp = s.dlexp := rfl
@[simp] theorem State.arrive_rxb (first : Byte) (rest : List Byte) : (s.arrive first rest).rxb = s.rxb := rfl
@[simp] theorem State.arrive_rxlen (first : Byte) (rest : List Byte) : (s.arrive first rest).rxlen = s.rxlen := rfl
@[simp] theorem State.arrive_rxovf (first : Byte) (rest : List Byte) : (s.arrive first rest).rxovf = s.rxovf := rfl
@[simp] theorem State.arrive_decin (first : Byte) (rest : List Byte) : (s.arrive first rest).decin = s.decin := rfl
@[simp] theorem State.arrive_decout (first : Byte) (rest : List Byte) : (s.arrive first rest).decout = s.decout := rfl
@[simp] theorem State.arrive_cerr (first : Byte) (rest : List Byte) : (s.arrive first rest).cerr = s.cerr := rfl
@[simp] theorem State.arrive_cerrs (first : Byte) (rest : List Byte) : (s.arrive first rest).cerrs = s.cerrs := rfl
@[simp] theorem State.arrive_chrx (first : Byte) (rest : List Byte) : (s.arrive first rest).chrx = s.chrx ++ first :: rest := rfl
@[simp] theorem State.arrive_txlog (first : Byte) (rest : List Byte) : (s.arrive first rest).txlog = s.txlog := rfl
@[simp] theorem State.arrive_inputs (first : Byte) (rest : List Byte) : (s.arrive first rest).inputs = s.inputs := rfl

@[simp] theorem State.loadFrame_rxcap (bytes : Vector Byte 14) (length : BitVec 4) (kind : FKind) (crc : Half) : (s.loadFrame bytes length kind crc).rxcap = s.rxcap := rfl
@[simp] theorem State.loadFrame_fb (bytes : Vector Byte 14) (length : BitVec 4) (kind : FKind) (crc : Half) : (s.loadFrame bytes length kind crc).fb = bytes := rfl
@[simp] theorem State.loadFrame_flen (bytes : Vector Byte 14) (length : BitVec 4) (kind : FKind) (crc : Half) : (s.loadFrame bytes length kind crc).flen = length := rfl
@[simp] theorem State.loadFrame_fkind (bytes : Vector Byte 14) (length : BitVec 4) (kind : FKind) (crc : Half) : (s.loadFrame bytes length kind crc).fkind = kind := rfl
@[simp] theorem State.loadFrame_crcr (bytes : Vector Byte 14) (length : BitVec 4) (kind : FKind) (crc : Half) : (s.loadFrame bytes length kind crc).crcr = crc := rfl
@[simp] theorem State.loadFrame_stepIdx (bytes : Vector Byte 14) (length : BitVec 4) (kind : FKind) (crc : Half) : (s.loadFrame bytes length kind crc).stepIdx = s.stepIdx := rfl
@[simp] theorem State.loadFrame_outcome (bytes : Vector Byte 14) (length : BitVec 4) (kind : FKind) (crc : Half) : (s.loadFrame bytes length kind crc).outcome = .idle := rfl
@[simp] theorem State.loadFrame_diag (bytes : Vector Byte 14) (length : BitVec 4) (kind : FKind) (crc : Half) : (s.loadFrame bytes length kind crc).diag = .none := rfl
@[simp] theorem State.loadFrame_result (bytes : Vector Byte 14) (length : BitVec 4) (kind : FKind) (crc : Half) : (s.loadFrame bytes length kind crc).result = s.result := rfl
@[simp] theorem State.loadFrame_dr (bytes : Vector Byte 14) (length : BitVec 4) (kind : FKind) (crc : Half) : (s.loadFrame bytes length kind crc).dr = s.dr := rfl
@[simp] theorem State.loadFrame_dlarm (bytes : Vector Byte 14) (length : BitVec 4) (kind : FKind) (crc : Half) : (s.loadFrame bytes length kind crc).dlarm = s.dlarm := rfl
@[simp] theorem State.loadFrame_dlexp (bytes : Vector Byte 14) (length : BitVec 4) (kind : FKind) (crc : Half) : (s.loadFrame bytes length kind crc).dlexp = s.dlexp := rfl
@[simp] theorem State.loadFrame_rxb (bytes : Vector Byte 14) (length : BitVec 4) (kind : FKind) (crc : Half) : (s.loadFrame bytes length kind crc).rxb = s.rxb := rfl
@[simp] theorem State.loadFrame_rxlen (bytes : Vector Byte 14) (length : BitVec 4) (kind : FKind) (crc : Half) : (s.loadFrame bytes length kind crc).rxlen = s.rxlen := rfl
@[simp] theorem State.loadFrame_rxovf (bytes : Vector Byte 14) (length : BitVec 4) (kind : FKind) (crc : Half) : (s.loadFrame bytes length kind crc).rxovf = s.rxovf := rfl
@[simp] theorem State.loadFrame_decin (bytes : Vector Byte 14) (length : BitVec 4) (kind : FKind) (crc : Half) : (s.loadFrame bytes length kind crc).decin = s.decin := rfl
@[simp] theorem State.loadFrame_decout (bytes : Vector Byte 14) (length : BitVec 4) (kind : FKind) (crc : Half) : (s.loadFrame bytes length kind crc).decout = s.decout := rfl
@[simp] theorem State.loadFrame_cerr (bytes : Vector Byte 14) (length : BitVec 4) (kind : FKind) (crc : Half) : (s.loadFrame bytes length kind crc).cerr = s.cerr := rfl
@[simp] theorem State.loadFrame_cerrs (bytes : Vector Byte 14) (length : BitVec 4) (kind : FKind) (crc : Half) : (s.loadFrame bytes length kind crc).cerrs = s.cerrs := rfl
@[simp] theorem State.loadFrame_chrx (bytes : Vector Byte 14) (length : BitVec 4) (kind : FKind) (crc : Half) : (s.loadFrame bytes length kind crc).chrx = s.chrx := rfl
@[simp] theorem State.loadFrame_txlog (bytes : Vector Byte 14) (length : BitVec 4) (kind : FKind) (crc : Half) : (s.loadFrame bytes length kind crc).txlog = s.txlog := rfl
@[simp] theorem State.loadFrame_inputs (bytes : Vector Byte 14) (length : BitVec 4) (kind : FKind) (crc : Half) : (s.loadFrame bytes length kind crc).inputs = s.inputs := rfl

@[simp] theorem State.blockReset_rxcap : (s.blockReset).rxcap = s.rxcap := rfl
@[simp] theorem State.blockReset_fb : (s.blockReset).fb = Vector.replicate 14 0 := rfl
@[simp] theorem State.blockReset_flen : (s.blockReset).flen = 0 := rfl
@[simp] theorem State.blockReset_fkind : (s.blockReset).fkind = .none := rfl
@[simp] theorem State.blockReset_crcr : (s.blockReset).crcr = 0 := rfl
@[simp] theorem State.blockReset_stepIdx : (s.blockReset).stepIdx = 0 := rfl
@[simp] theorem State.blockReset_outcome : (s.blockReset).outcome = .idle := rfl
@[simp] theorem State.blockReset_diag : (s.blockReset).diag = .none := rfl
@[simp] theorem State.blockReset_result : (s.blockReset).result = 0 := rfl
@[simp] theorem State.blockReset_dr : (s.blockReset).dr = false := rfl
@[simp] theorem State.blockReset_dlarm : (s.blockReset).dlarm = false := rfl
@[simp] theorem State.blockReset_dlexp : (s.blockReset).dlexp = false := rfl
@[simp] theorem State.blockReset_rxb : (s.blockReset).rxb = List.replicate s.rxcap.toNat 0 := rfl
@[simp] theorem State.blockReset_rxlen : (s.blockReset).rxlen = 0 := rfl
@[simp] theorem State.blockReset_rxovf : (s.blockReset).rxovf = false := rfl
@[simp] theorem State.blockReset_decin : (s.blockReset).decin = 0 := rfl
@[simp] theorem State.blockReset_decout : (s.blockReset).decout = 0 := rfl
@[simp] theorem State.blockReset_cerr : (s.blockReset).cerr = .ok := rfl
@[simp] theorem State.blockReset_cerrs : (s.blockReset).cerrs = false := rfl
@[simp] theorem State.blockReset_chrx : (s.blockReset).chrx = s.chrx := rfl
@[simp] theorem State.blockReset_txlog : (s.blockReset).txlog = s.txlog := rfl
@[simp] theorem State.blockReset_inputs : (s.blockReset).inputs = s.inputs := rfl

/-- Accepting a command clears CERR and changes nothing else. -/
theorem State.accept_eq : s.accept = { s with cerr := .ok } := by simp [State.accept, State.setStatus]

end Sys2Proof.Machine
end

