-- ==== Sys2Proof/Laws/Ops.lean ====
section
/-! SUPPORT. One lemma per shared operation, saying once everything it can do; provers cite these instead of unfolding. -/

namespace Sys2Proof.Machine

/-! ### Byte buffers -/

@[simp] theorem byteAt_nil (i : Nat) : byteAt [] i = 0 := rfl

theorem byteAt_of_length_le {buf : List Byte} {i : Nat} (h : buf.length ≤ i) : byteAt buf i = 0 := by
  simp [byteAt, List.getElem?_eq_none h]

theorem byteAt_of_lt {buf : List Byte} {i : Nat} (h : i < buf.length) : byteAt buf i = buf[i] := by
  simp [byteAt, h]

@[simp] theorem byteAt_replicate_zero (n i : Nat) : byteAt (List.replicate n 0) i = 0 := by
  by_cases h : i < n
  · rw [byteAt_of_lt (by simpa using h)]; simp
  · exact byteAt_of_length_le (by simpa using h)

theorem byteAt_append_left {a b : List Byte} {i : Nat} (h : i < a.length) : byteAt (a ++ b) i = byteAt a i := by
  simp [byteAt, List.getElem?_append_left h]

theorem byteAt_append_right {a b : List Byte} {i : Nat} (h : a.length ≤ i) :
    byteAt (a ++ b) i = byteAt b (i - a.length) := by
  simp [byteAt, List.getElem?_append_right h]

/-- Bytes below `n` are those of any buffer with the same first `n` bytes. -/
theorem byteAt_eq_of_take {a b : List Byte} {n i : Nat} (h : a.take n = b.take n) (hi : i < n) :
    byteAt a i = byteAt b i := by
  have := congrArg (fun l : List Byte => l[i]?) h
  simpa [byteAt, List.getElem?_take, hi] using congrArg (·.getD 0) this

/-! ### Drains -/

theorem drainStore_rxb_length (s : State) : s.drainStore.rxb.length = s.rxcap.toNat := by
  simp [State.drainStore]

/-- What RXB holds after drain-and-store: the drained byte below RXCAP, else 0x00. -/
theorem drainStore_byteAt (s : State) (i : Nat) :
    byteAt s.drainStore.rxb i = if i < s.rxcap.toNat then byteAt s.chrx i else 0 := by
  by_cases h : i < s.rxcap.toNat
  · rw [byteAt_of_lt (by simpa [State.drainStore] using h), if_pos h]
    by_cases hc : i < s.chrx.length
    · simp [State.drainStore, hc]
    · simp [State.drainStore, hc, byteAt_of_length_le (Nat.le_of_not_lt hc)]
  · rw [byteAt_of_length_le (by simpa [State.drainStore] using h), if_neg h]

theorem drainStore_rxlen_toNat (s : State) :
    s.drainStore.rxlen.toNat = min s.chrx.length s.rxcap.toNat := by
  have := s.rxcap.isLt
  simp only [State.drainStore_rxlen, BitVec.toNat_ofNat]
  exact Nat.mod_eq_of_lt (by omega)

/-- Nothing but 0x00 past RXLEN after drain-and-store (10_state.md R27). -/
theorem drainStore_rxb_tail (s : State) (i : Nat) (h : s.drainStore.rxlen.toNat ≤ i) :
    byteAt s.drainStore.rxb i = 0 := by
  rw [drainStore_byteAt]
  rw [drainStore_rxlen_toNat] at h
  split_ifs with hi
  · exact byteAt_of_length_le (by omega)
  · rfl

theorem drainStore_rxlen_le (s : State) : s.drainStore.rxlen.toNat ≤ s.rxcap.toNat := by
  rw [drainStore_rxlen_toNat]; omega

/-- Bytes are dropped only when RXB is full (10_state.md R28). -/
theorem drainStore_rxovf_full (s : State) (h : s.drainStore.rxovf = true) : s.drainStore.rxlen = s.rxcap := by
  simp only [State.drainStore_rxovf, decide_eq_true_eq] at h
  apply BitVec.eq_of_toNat_eq
  rw [drainStore_rxlen_toNat]; omega

/-- A drain that finds a byte leaves RXLEN != 0. -/
theorem drainStore_rxlen_ne_zero {s : State} (hc : s.chrx ≠ []) (hr : 0 < s.rxcap.toNat) : s.drainStore.rxlen ≠ 0 := by
  intro e
  have h := drainStore_rxlen_toNat s
  have : 0 < s.chrx.length := List.length_pos_of_ne_nil hc
  rw [e] at h
  simp at h
  omega

/-! ### Poll, expiry, the busy interlock -/

/-- `Poll` advances on DR, else jumps to step 40 on DLEXP, else changes nothing. -/
theorem poll_cases (next : BitVec 6) (code : Diag) (s : State) :
    (s.dr = true ∧ s.poll next code = s.goto next) ∨
    (s.dr = false ∧ s.dlexp = true ∧ s.poll next code = s.jumpWith code 40) ∨
    (s.dr = false ∧ s.dlexp = false ∧ s.poll next code = s) := by
  cases hd : s.dr <;> cases he : s.dlexp <;> simp [State.poll, hd, he]

/-- The expiry event sets DLEXP where it is enabled, and else changes nothing. -/
theorem expire_cases (s : State) :
    (s.dlarm = true ∧ s.dlexp = false ∧ s.expire = { s with dlexp := true }) ∨
    (¬(s.dlarm = true ∧ s.dlexp = false) ∧ s.expire = s) := by
  cases ha : s.dlarm <;> cases he : s.dlexp <;> simp [State.expire, ha, he]

/-- An FB writer is refused with BUSY while STEP != 0, and else accepted. -/
theorem unlessBusy_cases (s accepted : State) :
    (s.stepIdx ≠ 0 ∧ s.unlessBusy accepted = .next (s.raiseCmdError .busy)) ∨
    (s.stepIdx = 0 ∧ s.unlessBusy accepted = .next accepted.accept) := by
  by_cases h : s.stepIdx = 0
  · exact .inr ⟨h, by rw [State.unlessBusy, if_neg (not_not.mpr h)]⟩
  · exact .inl ⟨h, by rw [State.unlessBusy, if_pos h]⟩

/-- A step that needs the frame's length has it when FLEN is 10 or 14, and is a fault otherwise. -/
theorem withFrameLength_cases (act : Nat → State → State) (s : State) :
    ((s.flen = 10 ∨ s.flen = 14) ∧ s.withFrameLength act = .next (act s.flen.toNat s).accept) ∨
    (s.flen ≠ 10 ∧ s.flen ≠ 14 ∧ s.withFrameLength act = .fault .unreachableFrameLength) := by
  by_cases h : s.flen = 10 ∨ s.flen = 14
  · exact .inl ⟨h, by rw [State.withFrameLength, State.frameLength?, if_pos h]⟩
  · exact .inr ⟨fun e => h (.inl e), fun e => h (.inr e), by rw [State.withFrameLength, State.frameLength?, if_neg h]⟩

end Sys2Proof.Machine
end

