-- ==== Sys2Proof/Laws/Crc.lean ====
section
/-! SUPPORT. Small lemmas about the bit-serial engine: the bit stream grows at its end, word by word; one bit is linear; the
stream depends only on the bytes of its words. -/

namespace Sys2Proof.Machine

@[simp] theorem crcBits_zero (buf : List Byte) : crcBits buf 0 = [] := rfl

/-- R112: one more word appends its 16 bits. -/
theorem crcBits_succ (buf : List Byte) (n : Nat) :
    crcBits buf (n + 1) = crcBits buf n ++ wordBits (crcWordAt buf n) := by
  simp [crcBits, List.range_succ]

/-- The engine after one more word. -/
theorem crc16_succ (buf : List Byte) (n : Nat) :
    crc16 buf (n + 1) = (wordBits (crcWordAt buf n)).foldl crcBit (crc16 buf n) := by
  simp [crc16, crcBits_succ, List.foldl_append]

theorem wordBits_length (w : Half) : (wordBits w).length = 16 := by simp [wordBits]

/-- One bit of the loop as three XORs: the shift, the data bit, and the polynomial if the carry was set. -/
theorem crcBit_eq_xor (r : Half) (bit : Bool) :
    crcBit r bit = (r <<< 1) ^^^ (if bit then 1 else 0) ^^^ (if r.msb then Config.crcPoly else 0) := by
  have h : (r <<< 1) ||| 1#16 = (r <<< 1) ^^^ 1#16 := by
    apply BitVec.eq_of_getLsbD_eq
    intro i hi
    rcases i with _ | i <;> simp
  cases bit <;> cases hm : r.msb <;> simp [crcBit, hm, h]

/-- One bit is linear over GF(2). -/
theorem crcBit_xor (r q : Half) (a b : Bool) : crcBit (r ^^^ q) (a ^^ b) = crcBit r a ^^^ crcBit q b := by
  have hs : (r ^^^ q) <<< 1 = (r <<< 1) ^^^ (q <<< 1) := BitVec.shiftLeft_xor_distrib _ _ _
  have hif (x y : Bool) (k : Half) : (if (x ^^ y) = true then k else 0) =
      (if x = true then k else 0) ^^^ (if y = true then k else 0) := by cases x <;> cases y <;> simp
  rw [crcBit_eq_xor, crcBit_eq_xor, crcBit_eq_xor, hs, BitVec.msb_xor, hif, hif]
  ac_rfl

/-- The word of a buffer depends on its two bytes alone. -/
theorem crcWordAt_congr {a b : List Byte} {i : Nat} (h0 : byteAt a (2 * i) = byteAt b (2 * i))
    (h1 : byteAt a (2 * i + 1) = byteAt b (2 * i + 1)) : crcWordAt a i = crcWordAt b i := by
  rw [crcWordAt, crcWordAt, h0, h1]

/-- The bit stream depends on its bytes alone. -/
theorem crcBits_congr {a b : List Byte} {n : Nat} (h : ∀ i, i < 2 * n → byteAt a i = byteAt b i) :
    crcBits a n = crcBits b n := by
  induction n with
  | zero => rfl
  | succ n ih =>
    rw [crcBits_succ, crcBits_succ, ih (fun i hi => h i (by omega)),
      crcWordAt_congr (h _ (by omega)) (h _ (by omega))]

end Sys2Proof.Machine
end

