-- ==== Sys2Proof/Laws/Decode.lean ====
section
/-! SUPPORT. Small lemmas about the decoder and the encoder. -/

namespace Sys2Proof

/-- R81 after R80: the fields of a word put together from fields are those fields. -/
@[simp] theorem fieldsOf_wordOf (f : CommandFields) : fieldsOf (wordOf f) = f := by
  cases f
  simp only [fieldsOf, wordOf, CommandFields.mk.injEq]
  refine ⟨?_, ?_, ?_, ?_, ?_⟩ <;>
    (apply BitVec.eq_of_getLsbD_eq; intro i hi; simp [hi]; try grind)

/-- R80 after R81: a word is put together from its fields. -/
@[simp] theorem wordOf_fieldsOf (c : CommandWord) : wordOf (fieldsOf c) = c := by
  simp only [fieldsOf, wordOf]
  apply BitVec.eq_of_getLsbD_eq
  intro i hi
  simp only [BitVec.getLsbD_append, BitVec.getLsbD_extractLsb']
  grind

/-- A word is determined by its fields. -/
theorem eq_of_fieldsOf_eq {c d : CommandWord} (h : fieldsOf c = fieldsOf d) : c = d := by
  rw [← wordOf_fieldsOf c, h, wordOf_fieldsOf]

/-- Masking a word masks each of its fields. -/
theorem fieldsOf_and (c m : CommandWord) : fieldsOf (c &&& m) =
    { op := (fieldsOf c).op &&& (fieldsOf m).op, z := (fieldsOf c).z &&& (fieldsOf m).z
      b := (fieldsOf c).b &&& (fieldsOf m).b, h := (fieldsOf c).h &&& (fieldsOf m).h
      d := (fieldsOf c).d &&& (fieldsOf m).d } := by
  simp only [fieldsOf, CommandFields.mk.injEq]
  refine ⟨?_, ?_, ?_, ?_, ?_⟩ <;> (apply BitVec.eq_of_getLsbD_eq; intro i hi; simp [hi])

/-- R83's rows overlap nowhere: their match values differ under the bits that both masks cover. -/
theorem commandRows_disjoint :
    ([(0x1, 0xFFFFFFFFFF0000FF), (0x2, 0xFFFFFFFFFFFF00FF), (0x3, 0xFFFFFFFF000000FF), (0x4, 0x000000000000FFFF),
      (0x5, 0xFFFFFFFFFFFFFFFF), (0x6, 0xFFFFFFFF0000FFFF)] : List (CommandWord × CommandWord)).Pairwise
      (fun a b => a.1 &&& a.2 &&& b.2 ≠ b.1 &&& a.2 &&& b.2) := by decide

end Sys2Proof
end

