-- ==== Sys2Proof/Laws/Moves.lean ====
section
/-! SUPPORT. What each move can do, said once: every command meaning, ADV step by step, and a move of an agent. -/

namespace Sys2Proof.Machine

/-! ### ADV -/

/-- ADV performs the step STEP numbers (R150, R151), one equation per step. -/
theorem performStep_start {s : State} (h : s.stepIdx = 0#6) : s.performStep = .next s.stepStart.accept := by
  simp [State.performStep, h]

theorem performStep_sendOpcode {s : State} (h : s.stepIdx = 1#6) :
    s.performStep = .next s.stepSendOpcode.accept := by simp [State.performStep, h]

theorem performStep_pollOpcode {s : State} (h : s.stepIdx = 2#6) :
    s.performStep = .next s.stepPollOpcode.accept := by simp [State.performStep, h]

theorem performStep_discard {s : State} (h : s.stepIdx = 3#6) : s.performStep = .next s.stepDiscard.accept := by
  simp [State.performStep, h]

theorem performStep_sendBody {s : State} (h : s.stepIdx = 4#6) :
    s.performStep = s.withFrameLength State.stepSendBody := by simp [State.performStep, h]

theorem performStep_pollBody {s : State} (h : s.stepIdx = 5#6) :
    s.performStep = .next s.stepPollBody.accept := by simp [State.performStep, h]

theorem performStep_checkAck {s : State} (h : s.stepIdx = 6#6) :
    s.performStep = .next s.stepCheckAck.accept := by simp [State.performStep, h]

theorem performStep_sendAck {s : State} (h : s.stepIdx = 7#6) :
    s.performStep = s.withFrameLength State.stepSendAck := by simp [State.performStep, h]

theorem performStep_pollData {s : State} (h : s.stepIdx = 8#6) :
    s.performStep = .next s.stepPollData.accept := by simp [State.performStep, h]

theorem performStep_take {s : State} (h : s.stepIdx = 9#6) :
    s.performStep = .next (if s.fkind = .read then s.stepTakeRead else s.stepTakeWrite).accept := by
  simp [State.performStep, h]

theorem performStep_finalAck {s : State} (h : s.stepIdx = 10#6) :
    s.performStep = s.withFrameLength State.stepFinalAck := by simp [State.performStep, h]

theorem performStep_success {s : State} (h : s.stepIdx = 20#6) :
    s.performStep = .next (s.finish .success).accept := by simp [State.performStep, h]

theorem performStep_failed {s : State} (h : s.stepIdx = 30#6) :
    s.performStep = .next (s.finish .failed).accept := by simp [State.performStep, h]

theorem performStep_timedOut {s : State} (h : s.stepIdx = 40#6) :
    s.performStep = .next (s.finish .timedOut).accept := by simp [State.performStep, h]

/-- The ADV that finds no frame, and the ADV that performs a step. -/
theorem execAdv_eq (s : State) :
    (s.fkind = .none ∧ execAdv s = .next (s.raiseCmdError .noframe)) ∨
    (s.fkind ≠ .none ∧ execAdv s = s.performStep) := by
  by_cases h : s.fkind = .none <;> simp [execAdv, h]

/-- Every way a step of the transaction can end: the state `t` an accepted ADV at STEP = `s.stepIdx` gives. -/
inductive AdvStep (s : State) : State → Prop where
  | start : s.stepIdx = 0#6 → AdvStep s s.stepStart.accept
  | sendOpcode : s.stepIdx = 1#6 → AdvStep s s.stepSendOpcode.accept
  | pollOpcode : s.stepIdx = 2#6 → AdvStep s s.stepPollOpcode.accept
  | discard : s.stepIdx = 3#6 → AdvStep s s.stepDiscard.accept
  | sendBody : s.stepIdx = 4#6 → AdvStep s (s.stepSendBody s.flen.toNat).accept
  | pollBody : s.stepIdx = 5#6 → AdvStep s s.stepPollBody.accept
  | checkAck : s.stepIdx = 6#6 → AdvStep s s.stepCheckAck.accept
  | sendAck : s.stepIdx = 7#6 → AdvStep s (s.stepSendAck s.flen.toNat).accept
  | pollData : s.stepIdx = 8#6 → AdvStep s s.stepPollData.accept
  | takeRead : s.stepIdx = 9#6 → s.fkind = .read → AdvStep s s.stepTakeRead.accept
  | takeWrite : s.stepIdx = 9#6 → s.fkind ≠ .read → AdvStep s s.stepTakeWrite.accept
  | finalAck : s.stepIdx = 10#6 → AdvStep s (s.stepFinalAck s.flen.toNat).accept
  | success : s.stepIdx = 20#6 → AdvStep s (s.finish .success).accept
  | failed : s.stepIdx = 30#6 → AdvStep s (s.finish .failed).accept
  | timedOut : s.stepIdx = 40#6 → AdvStep s (s.finish .timedOut).accept

theorem withFrameLength_next {act : Nat → State → State} {s t : State} (h : s.withFrameLength act = .next t) :
    t = (act s.flen.toNat s).accept := by
  obtain ⟨-, e⟩ | ⟨-, -, e⟩ := withFrameLength_cases act s <;> rw [e] at h <;> cases h
  rfl

/-- If a step answers next, it is one of the table's. -/
theorem performStep_cases {s t : State} (h : s.performStep = .next t) : AdvStep s t := by
  unfold State.performStep at h
  split at h
  case h_1 e => cases h; exact .start e
  case h_2 e => cases h; exact .sendOpcode e
  case h_3 e => cases h; exact .pollOpcode e
  case h_4 e => cases h; exact .discard e
  case h_5 e => cases withFrameLength_next h; exact .sendBody e
  case h_6 e => cases h; exact .pollBody e
  case h_7 e => cases h; exact .checkAck e
  case h_8 e => cases withFrameLength_next h; exact .sendAck e
  case h_9 e => cases h; exact .pollData e
  case h_10 e =>
    cases h
    by_cases hk : s.fkind = .read
    · rw [if_pos hk]; exact .takeRead e hk
    · rw [if_neg hk]; exact .takeWrite e hk
  case h_11 e => cases withFrameLength_next h; exact .finalAck e
  case h_12 e => cases h; exact .success e
  case h_13 e => cases h; exact .failed e
  case h_14 e => cases h; exact .timedOut e
  case h_15 => cases h

/-- Step 6 either goes on to step 7 or jumps to step 30 with BAD_ACK or EMPTY. -/
theorem stepCheckAck_cases (s : State) :
    (s.drainStore.rxlen ≠ 0 ∧ byteAt s.drainStore.rxb 0 = Config.ackMarker ∧ s.stepCheckAck = s.drainStore.goto 7) ∨
    (s.drainStore.rxlen = 0 ∧ s.stepCheckAck = s.drainStore.jumpWith .empty 30) ∨
    (s.drainStore.rxlen ≠ 0 ∧ byteAt s.drainStore.rxb 0 ≠ Config.ackMarker ∧
      s.stepCheckAck = s.drainStore.jumpWith .badAck 30) := by
  by_cases h : s.drainStore.rxlen = 0
  · exact .inr (.inl ⟨h, by rw [State.stepCheckAck, if_pos h]⟩)
  · by_cases hb : byteAt s.drainStore.rxb 0 = Config.ackMarker
    · exact .inl ⟨h, hb, by rw [State.stepCheckAck, if_neg h, if_pos hb]⟩
    · exact .inr (.inr ⟨h, hb, by rw [State.stepCheckAck, if_neg h, if_neg hb]⟩)

/-- Step 9 of a read either decodes bytes 5 and 6 and goes on to step 10, or jumps to step 30 with DECODE. -/
theorem stepTakeRead_cases (s : State) :
    (7 ≤ s.drainStore.rxlen.toNat ∧ s.stepTakeRead = State.goto 10
      { s.drainStore with result := resultWord (byteAt s.drainStore.rxb 5) (byteAt s.drainStore.rxb 6) }) ∨
    (s.drainStore.rxlen.toNat < 7 ∧ s.stepTakeRead = s.drainStore.jumpWith .decode 30) := by
  by_cases h : 7 ≤ s.drainStore.rxlen.toNat
  · exact .inl ⟨h, by rw [State.stepTakeRead, if_pos h]⟩
  · exact .inr ⟨by omega, by rw [State.stepTakeRead, if_neg h]⟩

/-! ### The other commands -/

/-- WRBUF: RANGE, BUSY, or one byte written. -/
theorem execWrbuf_cases (pos val : Byte) (s : State) :
    (13 < pos.toNat ∧ execWrbuf pos val s = .next (s.raiseCmdError .range)) ∨
    (pos.toNat ≤ 13 ∧ s.stepIdx ≠ 0 ∧ execWrbuf pos val s = .next (s.raiseCmdError .busy)) ∨
    (pos.toNat ≤ 13 ∧ s.stepIdx = 0 ∧
      execWrbuf pos val s = .next { s with fb := s.fb.setIfInBounds pos.toNat val }.accept) := by
  by_cases h : 13 < pos.toNat
  · exact .inl ⟨h, by rw [execWrbuf, if_pos h]⟩
  · rw [execWrbuf, if_neg h]
    obtain ⟨hb, e⟩ | ⟨hb, e⟩ := unlessBusy_cases s { s with fb := s.fb.setIfInBounds pos.toNat val }
    · exact .inr (.inl ⟨by omega, hb, e⟩)
    · exact .inr (.inr ⟨by omega, hb, e⟩)

/-- CRC16: RANGE, or CRCR written. -/
theorem execCrc16_cases (n : Byte) (s : State) :
    (7 < n.toNat ∧ execCrc16 n s = .next (s.raiseCmdError .range)) ∨
    (n.toNat ≤ 7 ∧ execCrc16 n s = .next { s with crcr := crc16 s.fb.toList n.toNat }.accept) := by
  by_cases h : 7 < n.toNat
  · exact .inl ⟨h, by rw [execCrc16, if_pos h]⟩
  · exact .inr ⟨by omega, by rw [execCrc16, if_neg h]⟩

/-- BUILDR: BUSY, or the read-frame loaded. -/
theorem execBuildr_cases (index : Half) (subindex : Byte) (s : State) :
    (s.stepIdx ≠ 0 ∧ execBuildr index subindex s = .next (s.raiseCmdError .busy)) ∨
    (s.stepIdx = 0 ∧ execBuildr index subindex s =
      .next (s.loadFrame (readFrameBytes index subindex) 10 .read (readFrameCrc index subindex)).accept) :=
  unlessBusy_cases _ _

/-- BUILDW: BUSY, or the write-frame loaded. -/
theorem execBuildw_cases (index : Half) (data : Word) (s : State) :
    (s.stepIdx ≠ 0 ∧ execBuildw index data s = .next (s.raiseCmdError .busy)) ∨
    (s.stepIdx = 0 ∧ execBuildw index data s =
      .next (s.loadFrame (writeFrameBytes index data) 14 .write (writeFrameCrc index data)).accept) :=
  unlessBusy_cases _ _

/-! ### Decoding a command word -/

/-- What a command word decodes to, by its fields: the operands of R84, or the reason it is reserved. -/
theorem decode_command_cases (c : CommandWord) :
    (∃ reason, decode (.command c) = .error reason ∧ (fieldsOf c).wellFormed = false) ∨
    ((fieldsOf c).wellFormed = true ∧ (
      ((fieldsOf c).op = 1#4 ∧ decode (.command c) = .ok (.wrbuf (fieldsOf c).b ((fieldsOf c).h.extractLsb' 0 8))) ∨
      ((fieldsOf c).op = 2#4 ∧ decode (.command c) = .ok (.crc16 (fieldsOf c).b)) ∨
      ((fieldsOf c).op = 3#4 ∧ decode (.command c) = .ok (.buildr (fieldsOf c).h (fieldsOf c).b)) ∨
      ((fieldsOf c).op = 4#4 ∧ decode (.command c) = .ok (.buildw (fieldsOf c).h (fieldsOf c).d)) ∨
      ((fieldsOf c).op = 5#4 ∧ decode (.command c) = .ok .adv) ∨
      ((fieldsOf c).op = 6#4 ∧ decode (.command c) = .ok (.dec (fieldsOf c).h)))) := by
  generalize hf : fieldsOf c = f
  have hd : decode (.command c) = if f.z = 0 then decodeOperands f else .error .reservedZ := by
    simp [decode, decodeCommand, hf]
  obtain ⟨op, z, b, h, d⟩ := f
  rw [hd]
  by_cases hz : z = 0
  · subst hz
    simp only [decodeOperands, CommandFields.wellFormed, if_pos]
    split <;> (try split_ifs with hc) <;> simp_all
  · exact .inl ⟨.reservedZ, if_neg hz, by simp_all [CommandFields.wellFormed]⟩

/-- ADV has one word: a well-formed word with op = 0x5 is it (R83). -/
theorem eq_advWord {c : CommandWord} (hw : (fieldsOf c).wellFormed = true) (ho : (fieldsOf c).op = 5#4) :
    c = advWord := by
  apply eq_of_fieldsOf_eq
  have ha : fieldsOf advWord = { op := 5#4, z := 0#4, b := 0#8, h := 0#16, d := 0#32 } := by decide
  rw [ha]
  generalize fieldsOf c = f at hw ho
  obtain ⟨op, z, b, h, d⟩ := f
  subst ho
  simp_all [CommandFields.wellFormed]

theorem fieldsOf_advWord_op : (fieldsOf advWord).op = 5#4 := by decide

theorem decode_advWord : decode (.command advWord) = .ok .adv := by decide

/-- R202: the decoder writes a code of its table. -/
theorem decodeStatus_legal (status : Half) : decodeStatus status ∈ legalDecout := by
  unfold decodeStatus; split_ifs <;> decide

/-! ### One move of an agent -/

/-- The word of ADV performs ADV. -/
theorem react_advWord (s : State) : react (.command advWord) s = exec .adv s := by
  rw [react, decode_advWord]

/-- Everything a command word can do: the state `t` it gives from `s`, with the condition under which it does so. -/
inductive CommandMove (c : CommandWord) (s : State) : State → Prop where
  | illegal : (fieldsOf c).wellFormed = false → CommandMove c s (s.raiseCmdError .illegal)
  | range : (fieldsOf c).wellFormed = true →
      ((fieldsOf c).op = 1#4 ∧ 13 < (fieldsOf c).b.toNat) ∨ ((fieldsOf c).op = 2#4 ∧ 7 < (fieldsOf c).b.toNat) →
      CommandMove c s (s.raiseCmdError .range)
  | busy : (fieldsOf c).wellFormed = true →
      ((fieldsOf c).op = 1#4 ∧ (fieldsOf c).b.toNat ≤ 13) ∨ (fieldsOf c).op = 3#4 ∨ (fieldsOf c).op = 4#4 →
      s.stepIdx ≠ 0 → CommandMove c s (s.raiseCmdError .busy)
  | noframe : (fieldsOf c).wellFormed = true → (fieldsOf c).op = 5#4 → c = advWord → s.fkind = .none →
      CommandMove c s (s.raiseCmdError .noframe)
  | wrbuf : (fieldsOf c).wellFormed = true → (fieldsOf c).op = 1#4 → (fieldsOf c).b.toNat ≤ 13 → s.stepIdx = 0 →
      CommandMove c s
        { s with fb := s.fb.setIfInBounds (fieldsOf c).b.toNat ((fieldsOf c).h.extractLsb' 0 8) }.accept
  | crc16 : (fieldsOf c).wellFormed = true → (fieldsOf c).op = 2#4 → (fieldsOf c).b.toNat ≤ 7 →
      CommandMove c s { s with crcr := crc16 s.fb.toList (fieldsOf c).b.toNat }.accept
  | buildr : (fieldsOf c).wellFormed = true → (fieldsOf c).op = 3#4 → s.stepIdx = 0 → CommandMove c s
      (s.loadFrame (readFrameBytes (fieldsOf c).h (fieldsOf c).b) 10 .read
        (readFrameCrc (fieldsOf c).h (fieldsOf c).b)).accept
  | buildw : (fieldsOf c).wellFormed = true → (fieldsOf c).op = 4#4 → s.stepIdx = 0 → CommandMove c s
      (s.loadFrame (writeFrameBytes (fieldsOf c).h (fieldsOf c).d) 14 .write
        (writeFrameCrc (fieldsOf c).h (fieldsOf c).d)).accept
  | adv {t : State} : (fieldsOf c).wellFormed = true → (fieldsOf c).op = 5#4 → c = advWord → s.fkind ≠ .none →
      AdvStep s t → CommandMove c s t
  | dec : (fieldsOf c).wellFormed = true → (fieldsOf c).op = 6#4 → CommandMove c s
      { s with decin := (fieldsOf c).h, decout := decodeStatus (fieldsOf c).h }.accept

/-- If a command word answers next, it is one of these. -/
theorem react_command_cases {c : CommandWord} {s t : State} (h : react (.command c) s = .next t) :
    CommandMove c s t := by
  obtain ⟨reason, hd, hw⟩ | ⟨hw, hops⟩ := decode_command_cases c
  · rw [react, hd] at h
    cases h
    exact .illegal hw
  · obtain ⟨ho, hd⟩ | ⟨ho, hd⟩ | ⟨ho, hd⟩ | ⟨ho, hd⟩ | ⟨ho, hd⟩ | ⟨ho, hd⟩ := hops <;>
      rw [react, hd] at h <;> simp only [exec] at h
    · obtain ⟨hr, e⟩ | ⟨hr, hb, e⟩ | ⟨hr, hb, e⟩ := execWrbuf_cases (fieldsOf c).b
        ((fieldsOf c).h.extractLsb' 0 8) s <;> rw [e] at h <;> cases h
      · exact .range hw (.inl ⟨ho, hr⟩)
      · exact .busy hw (.inl ⟨ho, hr⟩) hb
      · exact .wrbuf hw ho hr hb
    · obtain ⟨hr, e⟩ | ⟨hr, e⟩ := execCrc16_cases (fieldsOf c).b s <;> rw [e] at h <;> cases h
      · exact .range hw (.inr ⟨ho, hr⟩)
      · exact .crc16 hw ho hr
    · obtain ⟨hb, e⟩ | ⟨hb, e⟩ := execBuildr_cases (fieldsOf c).h (fieldsOf c).b s <;> rw [e] at h <;> cases h
      · exact .busy hw (.inr (.inl ho)) hb
      · exact .buildr hw ho hb
    · obtain ⟨hb, e⟩ | ⟨hb, e⟩ := execBuildw_cases (fieldsOf c).h (fieldsOf c).d s <;> rw [e] at h <;> cases h
      · exact .busy hw (.inr (.inr ho)) hb
      · exact .buildw hw ho hb
    · obtain ⟨hk, e⟩ | ⟨hk, e⟩ := execAdv_eq s <;> rw [e] at h
      · cases h; exact .noframe hw ho (eq_advWord hw ho) hk
      · exact .adv hw ho (eq_advWord hw ho) hk (performStep_cases h)
    · cases h
      exact .dec hw ho

end Sys2Proof.Machine
end

