-- ==== Sys2Proof/Laws/Frames.lean ====
section
/-! SUPPORT. What every step of a transaction leaves unchanged, field by field (10_state.md R43, row ADV), and what the
conditional operations leave unchanged. -/

namespace Sys2Proof.Machine

variable (s : State)

@[simp] theorem State.poll_rxcap (next : BitVec 6) (code : Diag) : (s.poll next code).rxcap = s.rxcap := by
  unfold State.poll; split_ifs <;> rfl
@[simp] theorem State.poll_fb (next : BitVec 6) (code : Diag) : (s.poll next code).fb = s.fb := by
  unfold State.poll; split_ifs <;> rfl
@[simp] theorem State.poll_flen (next : BitVec 6) (code : Diag) : (s.poll next code).flen = s.flen := by
  unfold State.poll; split_ifs <;> rfl
@[simp] theorem State.poll_fkind (next : BitVec 6) (code : Diag) : (s.poll next code).fkind = s.fkind := by
  unfold State.poll; split_ifs <;> rfl
@[simp] theorem State.poll_crcr (next : BitVec 6) (code : Diag) : (s.poll next code).crcr = s.crcr := by
  unfold State.poll; split_ifs <;> rfl
@[simp] theorem State.poll_outcome (next : BitVec 6) (code : Diag) : (s.poll next code).outcome = s.outcome := by
  unfold State.poll; split_ifs <;> rfl
@[simp] theorem State.poll_result (next : BitVec 6) (code : Diag) : (s.poll next code).result = s.result := by
  unfold State.poll; split_ifs <;> rfl
@[simp] theorem State.poll_dr (next : BitVec 6) (code : Diag) : (s.poll next code).dr = s.dr := by
  unfold State.poll; split_ifs <;> rfl
@[simp] theorem State.poll_dlarm (next : BitVec 6) (code : Diag) : (s.poll next code).dlarm = s.dlarm := by
  unfold State.poll; split_ifs <;> rfl
@[simp] theorem State.poll_dlexp (next : BitVec 6) (code : Diag) : (s.poll next code).dlexp = s.dlexp := by
  unfold State.poll; split_ifs <;> rfl
@[simp] theorem State.poll_rxb (next : BitVec 6) (code : Diag) : (s.poll next code).rxb = s.rxb := by
  unfold State.poll; split_ifs <;> rfl
@[simp] theorem State.poll_rxlen (next : BitVec 6) (code : Diag) : (s.poll next code).rxlen = s.rxlen := by
  unfold State.poll; split_ifs <;> rfl
@[simp] theorem State.poll_rxovf (next : BitVec 6) (code : Diag) : (s.poll next code).rxovf = s.rxovf := by
  unfold State.poll; split_ifs <;> rfl
@[simp] theorem State.poll_decin (next : BitVec 6) (code : Diag) : (s.poll next code).decin = s.decin := by
  unfold State.poll; split_ifs <;> rfl
@[simp] theorem State.poll_decout (next : BitVec 6) (code : Diag) : (s.poll next code).decout = s.decout := by
  unfold State.poll; split_ifs <;> rfl
@[simp] theorem State.poll_cerr (next : BitVec 6) (code : Diag) : (s.poll next code).cerr = s.cerr := by
  unfold State.poll; split_ifs <;> rfl
@[simp] theorem State.poll_cerrs (next : BitVec 6) (code : Diag) : (s.poll next code).cerrs = s.cerrs := by
  unfold State.poll; split_ifs <;> rfl
@[simp] theorem State.poll_chrx (next : BitVec 6) (code : Diag) : (s.poll next code).chrx = s.chrx := by
  unfold State.poll; split_ifs <;> rfl
@[simp] theorem State.poll_txlog (next : BitVec 6) (code : Diag) : (s.poll next code).txlog = s.txlog := by
  unfold State.poll; split_ifs <;> rfl
@[simp] theorem State.poll_inputs (next : BitVec 6) (code : Diag) : (s.poll next code).inputs = s.inputs := by
  unfold State.poll; split_ifs <;> rfl

@[simp] theorem State.expire_rxcap : s.expire.rxcap = s.rxcap := by unfold State.expire; split_ifs <;> rfl
@[simp] theorem State.expire_fb : s.expire.fb = s.fb := by unfold State.expire; split_ifs <;> rfl
@[simp] theorem State.expire_flen : s.expire.flen = s.flen := by unfold State.expire; split_ifs <;> rfl
@[simp] theorem State.expire_fkind : s.expire.fkind = s.fkind := by unfold State.expire; split_ifs <;> rfl
@[simp] theorem State.expire_crcr : s.expire.crcr = s.crcr := by unfold State.expire; split_ifs <;> rfl
@[simp] theorem State.expire_stepIdx : s.expire.stepIdx = s.stepIdx := by unfold State.expire; split_ifs <;> rfl
@[simp] theorem State.expire_outcome : s.expire.outcome = s.outcome := by unfold State.expire; split_ifs <;> rfl
@[simp] theorem State.expire_diag : s.expire.diag = s.diag := by unfold State.expire; split_ifs <;> rfl
@[simp] theorem State.expire_result : s.expire.result = s.result := by unfold State.expire; split_ifs <;> rfl
@[simp] theorem State.expire_dr : s.expire.dr = s.dr := by unfold State.expire; split_ifs <;> rfl
@[simp] theorem State.expire_dlarm : s.expire.dlarm = s.dlarm := by unfold State.expire; split_ifs <;> rfl
@[simp] theorem State.expire_rxb : s.expire.rxb = s.rxb := by unfold State.expire; split_ifs <;> rfl
@[simp] theorem State.expire_rxlen : s.expire.rxlen = s.rxlen := by unfold State.expire; split_ifs <;> rfl
@[simp] theorem State.expire_rxovf : s.expire.rxovf = s.rxovf := by unfold State.expire; split_ifs <;> rfl
@[simp] theorem State.expire_decin : s.expire.decin = s.decin := by unfold State.expire; split_ifs <;> rfl
@[simp] theorem State.expire_decout : s.expire.decout = s.decout := by unfold State.expire; split_ifs <;> rfl
@[simp] theorem State.expire_cerr : s.expire.cerr = s.cerr := by unfold State.expire; split_ifs <;> rfl
@[simp] theorem State.expire_cerrs : s.expire.cerrs = s.cerrs := by unfold State.expire; split_ifs <;> rfl
@[simp] theorem State.expire_chrx : s.expire.chrx = s.chrx := by unfold State.expire; split_ifs <;> rfl
@[simp] theorem State.expire_txlog : s.expire.txlog = s.txlog := by unfold State.expire; split_ifs <;> rfl
@[simp] theorem State.expire_inputs : s.expire.inputs = s.inputs := by unfold State.expire; split_ifs <;> rfl

@[simp] theorem State.stepCheckAck_rxcap : s.stepCheckAck.rxcap = s.drainStore.rxcap := by
  unfold State.stepCheckAck; dsimp only; split_ifs <;> rfl
@[simp] theorem State.stepCheckAck_fb : s.stepCheckAck.fb = s.drainStore.fb := by
  unfold State.stepCheckAck; dsimp only; split_ifs <;> rfl
@[simp] theorem State.stepCheckAck_flen : s.stepCheckAck.flen = s.drainStore.flen := by
  unfold State.stepCheckAck; dsimp only; split_ifs <;> rfl
@[simp] theorem State.stepCheckAck_fkind : s.stepCheckAck.fkind = s.drainStore.fkind := by
  unfold State.stepCheckAck; dsimp only; split_ifs <;> rfl
@[simp] theorem State.stepCheckAck_crcr : s.stepCheckAck.crcr = s.drainStore.crcr := by
  unfold State.stepCheckAck; dsimp only; split_ifs <;> rfl
@[simp] theorem State.stepCheckAck_outcome : s.stepCheckAck.outcome = s.drainStore.outcome := by
  unfold State.stepCheckAck; dsimp only; split_ifs <;> rfl
@[simp] theorem State.stepCheckAck_result : s.stepCheckAck.result = s.drainStore.result := by
  unfold State.stepCheckAck; dsimp only; split_ifs <;> rfl
@[simp] theorem State.stepCheckAck_dr : s.stepCheckAck.dr = s.drainStore.dr := by
  unfold State.stepCheckAck; dsimp only; split_ifs <;> rfl
@[simp] theorem State.stepCheckAck_dlarm : s.stepCheckAck.dlarm = s.drainStore.dlarm := by
  unfold State.stepCheckAck; dsimp only; split_ifs <;> rfl
@[simp] theorem State.stepCheckAck_dlexp : s.stepCheckAck.dlexp = s.drainStore.dlexp := by
  unfold State.stepCheckAck; dsimp only; split_ifs <;> rfl
@[simp] theorem State.stepCheckAck_rxb : s.stepCheckAck.rxb = s.drainStore.rxb := by
  unfold State.stepCheckAck; dsimp only; split_ifs <;> rfl
@[simp] theorem State.stepCheckAck_rxlen : s.stepCheckAck.rxlen = s.drainStore.rxlen := by
  unfold State.stepCheckAck; dsimp only; split_ifs <;> rfl
@[simp] theorem State.stepCheckAck_rxovf : s.stepCheckAck.rxovf = s.drainStore.rxovf := by
  unfold State.stepCheckAck; dsimp only; split_ifs <;> rfl
@[simp] theorem State.stepCheckAck_decin : s.stepCheckAck.decin = s.drainStore.decin := by
  unfold State.stepCheckAck; dsimp only; split_ifs <;> rfl
@[simp] theorem State.stepCheckAck_decout : s.stepCheckAck.decout = s.drainStore.decout := by
  unfold State.stepCheckAck; dsimp only; split_ifs <;> rfl
@[simp] theorem State.stepCheckAck_cerr : s.stepCheckAck.cerr = s.drainStore.cerr := by
  unfold State.stepCheckAck; dsimp only; split_ifs <;> rfl
@[simp] theorem State.stepCheckAck_cerrs : s.stepCheckAck.cerrs = s.drainStore.cerrs := by
  unfold State.stepCheckAck; dsimp only; split_ifs <;> rfl
@[simp] theorem State.stepCheckAck_chrx : s.stepCheckAck.chrx = s.drainStore.chrx := by
  unfold State.stepCheckAck; dsimp only; split_ifs <;> rfl
@[simp] theorem State.stepCheckAck_txlog : s.stepCheckAck.txlog = s.drainStore.txlog := by
  unfold State.stepCheckAck; dsimp only; split_ifs <;> rfl
@[simp] theorem State.stepCheckAck_inputs : s.stepCheckAck.inputs = s.drainStore.inputs := by
  unfold State.stepCheckAck; dsimp only; split_ifs <;> rfl

@[simp] theorem State.stepTakeRead_rxcap : s.stepTakeRead.rxcap = s.drainStore.rxcap := by
  unfold State.stepTakeRead; dsimp only; split_ifs <;> rfl
@[simp] theorem State.stepTakeRead_fb : s.stepTakeRead.fb = s.drainStore.fb := by
  unfold State.stepTakeRead; dsimp only; split_ifs <;> rfl
@[simp] theorem State.stepTakeRead_flen : s.stepTakeRead.flen = s.drainStore.flen := by
  unfold State.stepTakeRead; dsimp only; split_ifs <;> rfl
@[simp] theorem State.stepTakeRead_fkind : s.stepTakeRead.fkind = s.drainStore.fkind := by
  unfold State.stepTakeRead; dsimp only; split_ifs <;> rfl
@[simp] theorem State.stepTakeRead_crcr : s.stepTakeRead.crcr = s.drainStore.crcr := by
  unfold State.stepTakeRead; dsimp only; split_ifs <;> rfl
@[simp] theorem State.stepTakeRead_outcome : s.stepTakeRead.outcome = s.drainStore.outcome := by
  unfold State.stepTakeRead; dsimp only; split_ifs <;> rfl
@[simp] theorem State.stepTakeRead_dr : s.stepTakeRead.dr = s.drainStore.dr := by
  unfold State.stepTakeRead; dsimp only; split_ifs <;> rfl
@[simp] theorem State.stepTakeRead_dlarm : s.stepTakeRead.dlarm = s.drainStore.dlarm := by
  unfold State.stepTakeRead; dsimp only; split_ifs <;> rfl
@[simp] theorem State.stepTakeRead_dlexp : s.stepTakeRead.dlexp = s.drainStore.dlexp := by
  unfold State.stepTakeRead; dsimp only; split_ifs <;> rfl
@[simp] theorem State.stepTakeRead_rxb : s.stepTakeRead.rxb = s.drainStore.rxb := by
  unfold State.stepTakeRead; dsimp only; split_ifs <;> rfl
@[simp] theorem State.stepTakeRead_rxlen : s.stepTakeRead.rxlen = s.drainStore.rxlen := by
  unfold State.stepTakeRead; dsimp only; split_ifs <;> rfl
@[simp] theorem State.stepTakeRead_rxovf : s.stepTakeRead.rxovf = s.drainStore.rxovf := by
  unfold State.stepTakeRead; dsimp only; split_ifs <;> rfl
@[simp] theorem State.stepTakeRead_decin : s.stepTakeRead.decin = s.drainStore.decin := by
  unfold State.stepTakeRead; dsimp only; split_ifs <;> rfl
@[simp] theorem State.stepTakeRead_decout : s.stepTakeRead.decout = s.drainStore.decout := by
  unfold State.stepTakeRead; dsimp only; split_ifs <;> rfl
@[simp] theorem State.stepTakeRead_cerr : s.stepTakeRead.cerr = s.drainStore.cerr := by
  unfold State.stepTakeRead; dsimp only; split_ifs <;> rfl
@[simp] theorem State.stepTakeRead_cerrs : s.stepTakeRead.cerrs = s.drainStore.cerrs := by
  unfold State.stepTakeRead; dsimp only; split_ifs <;> rfl
@[simp] theorem State.stepTakeRead_chrx : s.stepTakeRead.chrx = s.drainStore.chrx := by
  unfold State.stepTakeRead; dsimp only; split_ifs <;> rfl
@[simp] theorem State.stepTakeRead_txlog : s.stepTakeRead.txlog = s.drainStore.txlog := by
  unfold State.stepTakeRead; dsimp only; split_ifs <;> rfl
@[simp] theorem State.stepTakeRead_inputs : s.stepTakeRead.inputs = s.drainStore.inputs := by
  unfold State.stepTakeRead; dsimp only; split_ifs <;> rfl

theorem AdvStep.rxcap_eq {s t : State} (h : AdvStep s t) : t.rxcap = s.rxcap := by
  cases h <;> simp [State.stepStart, State.stepSendOpcode, State.stepPollOpcode, State.stepDiscard, State.stepSendBody,
    State.stepPollBody, State.stepSendAck, State.stepPollData, State.stepTakeWrite, State.stepFinalAck]

theorem AdvStep.fb_eq {s t : State} (h : AdvStep s t) : t.fb = s.fb := by
  cases h <;> simp [State.stepStart, State.stepSendOpcode, State.stepPollOpcode, State.stepDiscard, State.stepSendBody,
    State.stepPollBody, State.stepSendAck, State.stepPollData, State.stepTakeWrite, State.stepFinalAck]

theorem AdvStep.flen_eq {s t : State} (h : AdvStep s t) : t.flen = s.flen := by
  cases h <;> simp [State.stepStart, State.stepSendOpcode, State.stepPollOpcode, State.stepDiscard, State.stepSendBody,
    State.stepPollBody, State.stepSendAck, State.stepPollData, State.stepTakeWrite, State.stepFinalAck]

theorem AdvStep.fkind_eq {s t : State} (h : AdvStep s t) : t.fkind = s.fkind := by
  cases h <;> simp [State.stepStart, State.stepSendOpcode, State.stepPollOpcode, State.stepDiscard, State.stepSendBody,
    State.stepPollBody, State.stepSendAck, State.stepPollData, State.stepTakeWrite, State.stepFinalAck]

theorem AdvStep.crcr_eq {s t : State} (h : AdvStep s t) : t.crcr = s.crcr := by
  cases h <;> simp [State.stepStart, State.stepSendOpcode, State.stepPollOpcode, State.stepDiscard, State.stepSendBody,
    State.stepPollBody, State.stepSendAck, State.stepPollData, State.stepTakeWrite, State.stepFinalAck]

theorem AdvStep.decin_eq {s t : State} (h : AdvStep s t) : t.decin = s.decin := by
  cases h <;> simp [State.stepStart, State.stepSendOpcode, State.stepPollOpcode, State.stepDiscard, State.stepSendBody,
    State.stepPollBody, State.stepSendAck, State.stepPollData, State.stepTakeWrite, State.stepFinalAck]

theorem AdvStep.decout_eq {s t : State} (h : AdvStep s t) : t.decout = s.decout := by
  cases h <;> simp [State.stepStart, State.stepSendOpcode, State.stepPollOpcode, State.stepDiscard, State.stepSendBody,
    State.stepPollBody, State.stepSendAck, State.stepPollData, State.stepTakeWrite, State.stepFinalAck]

theorem AdvStep.cerrs_eq {s t : State} (h : AdvStep s t) : t.cerrs = s.cerrs := by
  cases h <;> simp [State.stepStart, State.stepSendOpcode, State.stepPollOpcode, State.stepDiscard, State.stepSendBody,
    State.stepPollBody, State.stepSendAck, State.stepPollData, State.stepTakeWrite, State.stepFinalAck]

theorem AdvStep.inputs_eq {s t : State} (h : AdvStep s t) : t.inputs = s.inputs := by
  cases h <;> simp [State.stepStart, State.stepSendOpcode, State.stepPollOpcode, State.stepDiscard, State.stepSendBody,
    State.stepPollBody, State.stepSendAck, State.stepPollData, State.stepTakeWrite, State.stepFinalAck]

/-- Every accepted ADV ends with CERR = 0 (42_transaction.md R150). -/
theorem AdvStep.cerr_eq {s t : State} (h : AdvStep s t) : t.cerr = .ok := by cases h <;> rfl

end Sys2Proof.Machine
end

