-- ==== Sys2Proof/Laws/PerInstr.lean ====
section
/-! SUPPORT. Statements made per instruction (LAWS.json): one lemma per constructor of Instr. -/

namespace Sys2Proof.Laws.EncodeMatches

/-- An instruction's own word has its row of R83's table: the masked word is the row's match value and the fields are
well-formed; a wire row's word is its header of R94. -/
def Statement (i : Instr) : Prop :=
  match encode i, commandRow i with
  | .command c, some (value, mask) => c &&& mask = value ∧ (fieldsOf c).wellFormed = true
  | .wire w, none => w = readFrameHeader ∨ w = writeFrameHeader
  | _, _ => False

theorem masked {f m v : CommandFields} (value mask : CommandWord) (hm : fieldsOf mask = m) (hv : fieldsOf value = v)
    (h : CommandFields.mk (f.op &&& m.op) (f.z &&& m.z) (f.b &&& m.b) (f.h &&& m.h) (f.d &&& m.d) = v) :
    wordOf f &&& mask = value := by
  apply eq_of_fieldsOf_eq
  rw [fieldsOf_and, fieldsOf_wordOf, hm, hv, h]

theorem high_zero (val : Byte) : ((0#8 ++ val : Half)).extractLsb' 8 8 = 0 := by
  apply BitVec.eq_of_getLsbD_eq
  intro i hi
  simp only [BitVec.getLsbD_extractLsb', BitVec.getLsbD_append, BitVec.getLsbD_zero]
  grind

theorem high_masked (val : Byte) : (0#8 ++ val : Half) &&& 0xFF00#16 = 0 := by
  revert val; decide

theorem wrbuf (pos val : Byte) : Statement (.wrbuf pos val) := by
  refine ⟨masked _ _ (m := ⟨0xF, 0xF, 0, 0xFF00, 0xFFFFFFFF⟩) (v := ⟨1, 0, 0, 0, 0⟩) (by decide) (by decide) ?_, ?_⟩
  · simp [high_masked]
  · simp [CommandFields.wellFormed, high_zero]

theorem crc16 (n : Byte) : Statement (.crc16 n) := by
  refine ⟨masked _ _ (m := ⟨0xF, 0xF, 0, 0xFFFF, 0xFFFFFFFF⟩) (v := ⟨2, 0, 0, 0, 0⟩) (by decide) (by decide) ?_, ?_⟩ <;>
    simp [CommandFields.wellFormed]

theorem buildr (index : Half) (subindex : Byte) : Statement (.buildr index subindex) := by
  refine ⟨masked _ _ (m := ⟨0xF, 0xF, 0, 0, 0xFFFFFFFF⟩) (v := ⟨3, 0, 0, 0, 0⟩) (by decide) (by decide) ?_, ?_⟩ <;>
    simp [CommandFields.wellFormed]

theorem buildw (index : Half) (data : Word) : Statement (.buildw index data) := by
  refine ⟨masked _ _ (m := ⟨0xF, 0xF, 0xFF, 0, 0⟩) (v := ⟨4, 0, 0, 0, 0⟩) (by decide) (by decide) ?_, ?_⟩ <;>
    simp [CommandFields.wellFormed]

theorem adv : Statement .adv := by
  refine ⟨?_, ?_⟩ <;> decide

theorem dec (status : Half) : Statement (.dec status) := by
  refine ⟨masked _ _ (m := ⟨0xF, 0xF, 0xFF, 0, 0xFFFFFFFF⟩) (v := ⟨6, 0, 0, 0, 0⟩) (by decide) (by decide) ?_, ?_⟩ <;>
    simp [CommandFields.wellFormed]

theorem readFrame : Statement .readFrame := .inl rfl

theorem writeFrame : Statement .writeFrame := .inr rfl

end Sys2Proof.Laws.EncodeMatches
end

