-- ==== Sys2Proof/Tests/Slice0.lean ====
section
/-! SUPPORT. Tests: ill-formed terms that the checks refuse, decodings of words written out from 30_encoding.md, one-step
tests from 95_test_vectors.md, and for every statement with hypotheses a concrete state and operands that meet them. -/

namespace Sys2Proof.Tests.Slice0

open Sys2Proof Sys2Proof.Machine

/-! ## Well-formedness: each check refuses an ill-formed term -/

/-- R83: z must be 0. -/
theorem test_refuses_z : (CommandFields.mk 0x5 0x1 0 0 0).wellFormed = false := by decide
/-- R85: opcode 0 is reserved. -/
theorem test_refuses_op_zero : (CommandFields.mk 0x0 0 0 0 0).wellFormed = false := by decide
/-- R85: opcodes 7 to 15 are reserved. -/
theorem test_refuses_op_seven : (CommandFields.mk 0x7 0 0 0 0).wellFormed = false := by decide
theorem test_refuses_op_fifteen : (CommandFields.mk 0xF 0 0 0 0).wellFormed = false := by decide
/-- R83: WRBUF's h[15:8] and d. -/
theorem test_refuses_wrbuf_h : (CommandFields.mk 0x1 0 3 0x0100 0).wellFormed = false := by decide
theorem test_refuses_wrbuf_d : (CommandFields.mk 0x1 0 3 0x00FF 1).wellFormed = false := by decide
/-- R83: CRC16's h and d. -/
theorem test_refuses_crc16_h : (CommandFields.mk 0x2 0 3 1 0).wellFormed = false := by decide
theorem test_refuses_crc16_d : (CommandFields.mk 0x2 0 3 0 1).wellFormed = false := by decide
/-- R83: BUILDR's d. -/
theorem test_refuses_buildr_d : (CommandFields.mk 0x3 0 3 0x6041 1).wellFormed = false := by decide
/-- R83: BUILDW's b. -/
theorem test_refuses_buildw_b : (CommandFields.mk 0x4 0 1 0x6041 1).wellFormed = false := by decide
/-- R83: ADV's b, h and d. -/
theorem test_refuses_adv_b : (CommandFields.mk 0x5 0 1 0 0).wellFormed = false := by decide
theorem test_refuses_adv_h : (CommandFields.mk 0x5 0 0 1 0).wellFormed = false := by decide
theorem test_refuses_adv_d : (CommandFields.mk 0x5 0 0 0 1).wellFormed = false := by decide
/-- R83: DEC's b and d. -/
theorem test_refuses_dec_b : (CommandFields.mk 0x6 0 1 0x0140 0).wellFormed = false := by decide
theorem test_refuses_dec_d : (CommandFields.mk 0x6 0 0 0x0140 1).wellFormed = false := by decide
/-- R83: the ranges of WRBUF's position and CRC16's count, at their edges. -/
theorem test_range_wrbuf : (Instr.wrbuf 13 0).operandsInRange = true ∧ (Instr.wrbuf 14 0).operandsInRange = false := by
  decide
theorem test_range_crc16 : (Instr.crc16 7).operandsInRange = true ∧ (Instr.crc16 8).operandsInRange = false := by decide
/-- R87: operands an assembler must refuse. -/
theorem test_refuses_lines : (AsmLine.wrbuf 256 0).wellFormed = false ∧ (AsmLine.wrbuf 0 (-1)).wellFormed = false ∧
    (AsmLine.crc16 256).wellFormed = false ∧ (AsmLine.buildr 0x10000 0).wellFormed = false ∧
    (AsmLine.buildr (-32769) 0).wellFormed = false ∧ (AsmLine.buildr 0 256).wellFormed = false ∧
    (AsmLine.buildw 0x10000 0).wellFormed = false ∧ (AsmLine.buildw 0 0x100000000).wellFormed = false ∧
    (AsmLine.buildw 0 (-2147483649)).wellFormed = false ∧ (AsmLine.dec (-1)).wellFormed = false ∧
    (AsmLine.dec 0x10000).wellFormed = false := by decide

/-! ## Decoding: words written out from R80, R83 and R87 -/

/-- R87: `wrbuf 13, 0xFF` is `(0xFF << 16) | (13 << 8) | 0x1` (V-FB-18). -/
theorem test_decode_wrbuf : decode (.command 0x0000000000FF0D01) = .ok (.wrbuf 13 0xFF) := by decide
/-- R87: `crc16 4` is `(4 << 8) | 0x2` (V-FB-17). -/
theorem test_decode_crc16 : decode (.command 0x0000000000000402) = .ok (.crc16 4) := by decide
/-- V-FB-12. -/
theorem test_decode_buildr : decode (.command 0x0000000060410503) = .ok (.buildr 0x6041 5) := by decide
/-- V-FB-6. -/
theorem test_decode_buildw : decode (.command 0xFFFFFFFE60600004) = .ok (.buildw 0x6060 0xFFFFFFFE) := by decide
/-- R87. -/
theorem test_decode_adv : decode (.command 0x0000000000000005) = .ok .adv := by decide
/-- V-TX-4. -/
theorem test_decode_dec : decode (.command 0x0000000001400006) = .ok (.dec 0x0140) := by decide
/-- R94: byte 0 in bits [15:8]. -/
theorem test_decode_readFrame : decodeTableWord 16 0x1001 = some .readFrame := by decide
theorem test_decode_writeFrame : decodeTableWord 16 0x1103 = some .writeFrame := by decide
/-- R94: no other first word starts a frame. -/
theorem test_decode_wire_other : decode (.wire 0x0110) = .error .notAFrameHeader := by decide
/-- R85: the all-zero word is reserved. -/
theorem test_decode_zero : decode (.command 0) = .error .reservedOpcode := by decide
theorem test_decode_z : decode (.command 0x15) = .error .reservedZ := by decide
theorem test_decode_field : decode (.command 0x0000000100000005) = .error .reservedField := by decide
/-- The encoder on V-FB-9's line. -/
theorem test_encode_buildw : encode (.buildw 0x607F 0x12345678) = .command 0x12345678607F0004 := by decide

/-! ## The assembler's text (R87) -/

/-- L1-3: a comment after `;` is dropped. -/
theorem test_assemble_buildw : assembleText "buildw 0x6060, -2 ; velocity mode".toList =
    some (some (.command 0xFFFFFFFE60600004)) := by decide +kernel
theorem test_assemble_comment : assembleText "  ; nothing".toList = some none := by decide +kernel
theorem test_assemble_refuses : assembleText "crc16 256".toList = none ∧ assembleText "adv 1".toList = none := by
  decide +kernel

/-! ## One step each -/

/-- A built frame of a shape at a step, the deadline armed as R36 says. -/
def at_ (kind : FKind) (k : BitVec 6) : State :=
  { State.reset with
    fkind := kind, flen := kind.length, stepIdx := k, outcome := if k = 0 then .idle else .processing, dlarm := k ≠ 0
    fb := #v[1, 2, 3, 4, 5, 6, 7, 8, 9, 10, 11, 12, 13, 14] }

/-- What a field is in the next state. -/
def after (r : Result) : Option State :=
  match r with
  | .next t => some t
  | .fault _ | .refused _ => none

/-- V-FB-18. -/
theorem test_wrbuf : (after (exec (.wrbuf 13 0xFF) State.reset)).map (fun t => (t.fbAt 13, t.fbAt 12, t.cerr)) =
    some (0xFF, 0, .ok) := by decide
/-- R222: RANGE before BUSY. -/
theorem test_wrbuf_range : (after (exec (.wrbuf 14 0) (at_ .read 3))).map (fun t => (t.cerr, t.cerrs)) =
    some (.range, true) := by decide
/-- V-CRC-17. -/
theorem test_crc16 : (after (exec (.crc16 2)
    { State.reset with fb := #v[0xFF, 0, 0x0F, 0xF0, 0, 0, 0, 0, 0, 0, 0, 0, 0, 0] })).map (·.crcr) = some 0x0C0F := by
  decide +kernel
/-- V-CRC-5, the golden vector. -/
theorem test_crc16_golden : crc16 [0x10, 0x01, 0x41, 0x60, 0x00, 0x02, 0x00, 0x00] 4 = 0x13D4 := by decide +kernel
/-- V-FB-12. -/
theorem test_buildr : (after (exec (.buildr 0x6041 5) State.reset)).map (fun t => (t.fb.toList, t.readPort 0, t.crcr)) =
    some ([0x10, 0x01, 0x41, 0x60, 0x05, 0x02, 0x21, 0xEC, 0x4F, 0x46, 0, 0, 0, 0], 0x00000400, 0xEC21) := by
  decide +kernel
/-- V-FB-13. -/
theorem test_buildw : (after (exec (.buildw 0x60C5 0x80000000) State.reset)).map
    (fun t => (t.fb.toList, t.readPort 0, t.crcr)) =
    some ([0x11, 0x03, 0xC5, 0x60, 0, 0x02, 0, 0, 0, 0x80, 0x69, 0xF3, 0x4F, 0x46], 0x00000800, 0xF369) := by
  decide +kernel
/-- V-TX-4, ADV 10: the result word of bytes 0x40, 0x01, and STATUS 0x000024A1. -/
theorem test_adv_result : (after (exec .adv { at_ .read 9 with
    dr := true, chrx := [0x4F, 0x00, 0x41, 0x60, 0x00, 0x40, 0x01] })).map (fun t => (t.result, t.readPort 0, t.rxlen)) =
    some (0x0140, 0x000024A1, 7) := by decide +kernel
/-- V-TX-3, ADV 7: a wrong first byte. -/
theorem test_adv_bad_ack : (after (exec .adv { at_ .write 6 with dr := true, chrx := [0x46] })).map
    (fun t => (t.readPort 0, t.rxb.head?)) = some (0x000129E1, some 0x46) := by decide +kernel
/-- V-TX-4: DEC 0x0140, and the DEC register. -/
theorem test_dec : (after (exec (.dec 0x0140) State.reset)).map (fun t => (t.decout, t.readPort 3)) =
    some (2, 0x01400002) := by decide
/-- R203: an unlisted word. -/
theorem test_dec_other : (after (exec (.dec 0x0141) State.reset)).map (·.decout) = some 1 := by decide
/-- R230: the bytes arrive in wire order. -/
theorem test_readFrame : (after (exec .readFrame (at_ .read 2))).map (fun t => (t.chrx, t.dr, t.stepIdx)) =
    some ([0x10, 0x01], true, 2) := by decide
theorem test_writeFrame : (after (exec .writeFrame { State.reset with chrx := [0xAA] })).map (·.chrx) =
    some [0xAA, 0x11, 0x03] := by decide
/-- V-FB-14: LEN after a reset, and the fetch of an opcode-table word. -/
theorem test_reset_len : State.reset.readPort 4 = 0x00200000 := by decide
theorem test_fetch : (after (step (State.reset.withFetchWord 64 0x0000000001400006))).map (fun t => (t.decout, t.inputs)) =
    some (2, []) := by decide

/-! ## Witnesses: concrete states and operands that meet a statement's hypotheses -/

theorem witness_DecodeAndEncodeAgree : decode (.command 0x00FF0D01) = .ok (.wrbuf 13 0xFF) := by decide

theorem witness_WordEncodesMnemonicByMaskAndMatch :
    commandRow (.wrbuf 14 0) = some (0x1, 0xFFFFFFFFFF0000FF) ∧
    (0x00000E01 : CommandWord) &&& 0xFFFFFFFFFF0000FF = 0x1 ∧ (fieldsOf 0x00000E01).wellFormed = true ∧
    (fieldsOf 0x00000E01).op = 1 ∧ 13 < (fieldsOf 0x00000E01).b.toNat ∧
    (fieldsOf 0x00000802).wellFormed = true ∧ (fieldsOf 0x00000802).op = 2 ∧ 7 < (fieldsOf 0x00000802).b.toNat := by
  decide

/-- One word per clause, at the edges of the fields. -/
theorem witness_OperandsAreTheirFields :
    decode (.command 0x00FFFF01) = .ok (.wrbuf 0xFF 0xFF) ∧ decode (.command 0x0000FF02) = .ok (.crc16 0xFF) ∧
    decode (.command 0xFFFFFF03) = .ok (.buildr 0xFFFF 0xFF) ∧
    decode (.command 0xFFFFFFFFFFFF0004) = .ok (.buildw 0xFFFF 0xFFFFFFFF) ∧ decode (.command 5) = .ok .adv ∧
    decode (.command 0xFFFF0006) = .ok (.dec 0xFFFF) := by decide

/-- One word per alternative, each with the lowest or the highest bit of the field it spoils. -/
theorem witness_ReservedWordsRaiseIllegal :
    (0x0 : CommandWord).extractLsb' 0 4 = 0 ∧ 7 ≤ ((0x7 : CommandWord).extractLsb' 0 4).toNat ∧
    (0x85 : CommandWord).extractLsb' 4 4 ≠ 0 ∧
    (0x0000000001000001 : CommandWord).extractLsb' 24 8 ≠ 0 ∧ (0x8000000000000001 : CommandWord).extractLsb' 32 32 ≠ 0 ∧
    (0x0000000000010002 : CommandWord).extractLsb' 16 16 ≠ 0 ∧ (0x0000000100000002 : CommandWord).extractLsb' 32 32 ≠ 0 ∧
    (0x0000000100000003 : CommandWord).extractLsb' 32 32 ≠ 0 ∧ (0x0000000000000104 : CommandWord).extractLsb' 8 8 ≠ 0 ∧
    (0x8000000000000005 : CommandWord).extractLsb' 4 60 ≠ 0 ∧ (0x0000000000008006 : CommandWord).extractLsb' 8 8 ≠ 0 ∧
    (0x0000000100000006 : CommandWord).extractLsb' 32 32 ≠ 0 := by decide

theorem witness_StepRunsTheDecodedInstruction :
    (State.reset.withFetchWord 64 5).inputs = .command 5 :: [] ∧ decode (.command 5) = .ok .adv ∧
    decodeTableWord 16 0x1103 = some .writeFrame ∧ decodeTableWord 64 5 = some .adv := by decide

/-- Operands at the edges of R87's ranges, inside and outside. -/
theorem witness_AssemblerEncodesAndRefuses :
    (assemble (.wrbuf 255 255)).isSome = true ∧ (assemble (.wrbuf 256 0)).isSome = false ∧
    (assemble (.crc16 255)).isSome = true ∧ (assemble (.crc16 (-1))).isSome = false ∧
    (assemble (.buildr (-32768) 255)).isSome = true ∧ (assemble (.buildr 0x10000 0)).isSome = false ∧
    (assemble (.buildw (-1) (-2147483648))).isSome = true ∧ (assemble (.buildw 0 0x100000000)).isSome = false ∧
    (assemble (.dec 0xFFFF)).isSome = true ∧ (assemble (.dec (-1))).isSome = false := by decide

theorem witness_WrbufWritesOneByte : (13 : Byte).toNat ≤ 13 ∧ (at_ .read 0).stepIdx = 0 := by decide

theorem witness_Crc16WritesTheChecksum : (7 : Byte).toNat ≤ 7 := by decide

theorem witness_BuildrBuildsTheReadFrame : (at_ .write 0).stepIdx = 0 := by decide

theorem witness_BuildwBuildsTheWriteFrame : (at_ .read 0).stepIdx = 0 := by decide

/-- A command that is accepted and one for each error code. -/
theorem witness_CommandStatusFollowsThePriority :
    (after (react (.command 0x0402) State.reset)).map (·.cerr) = some .ok ∧
    (after (react (.command 0x0) State.reset)).map (·.cerr) = some .illegal ∧
    (after (react (.command 0x0802) State.reset)).map (·.cerr) = some .range ∧
    (after (react (.command 0x3) (at_ .read 40))).map (·.cerr) = some .busy ∧
    (after (react (.command 0x5) State.reset)).map (·.cerr) = some .noframe := by decide +kernel

theorem witness_RefusedCommandHasNoOtherEffect :
    (after (react (.command 0x5) State.reset)).map (fun t => t.cerr ≠ .ok) = some True := by
  simp [after, react, decode, decodeCommand, fieldsOf, decodeOperands, exec, execAdv, State.reset, State.raiseCmdError]

/-- Each kind of move answers a next state. -/
theorem witness_ErrorRecordIsSticky :
    (after (react (.command 0x0) State.reset)).isSome = true ∧ (after (react .reset State.reset)).isSome = true ∧
    (after (react (.arrival 1 []) State.reset)).isSome = true ∧ (after (react .expiry State.reset)).isSome = true := by
  decide

theorem witness_FrameWritersRefusedWhileBusy : (at_ .write 1).stepIdx ≠ 0 ∧ (at_ .write 40).stepIdx ≠ 0 ∧
    (at_ .read 0).stepIdx = 0 ∧ (13 : Byte).toNat ≤ 13 := by decide

/-- One accepted word per row, and a refused one. -/
theorem witness_CommandsWriteOnlyTheirColumns :
    ((after (react (.command 0x00FF0D01) State.reset)).map (·.cerr), (fieldsOf 0x00FF0D01).op) = (some .ok, 1) ∧
    ((after (react (.command 0x0102) State.reset)).map (·.cerr), (fieldsOf 0x0102).op) = (some .ok, 2) ∧
    ((after (react (.command 0x3) State.reset)).map (·.cerr), (fieldsOf 0x3).op) = (some .ok, 3) ∧
    ((after (react (.command 0x4) State.reset)).map (·.cerr), (fieldsOf 0x4).op) = (some .ok, 4) ∧
    ((after (react (.command 0x5) (at_ .read 0))).map (·.cerr), (fieldsOf 0x5).op) = (some .ok, 5) ∧
    ((after (react (.command 0x6) State.reset)).map (·.cerr), (fieldsOf 0x6).op) = (some .ok, 6) ∧
    (after (react (.command 0x7) State.reset)).map (·.cerr) = some .illegal := by decide +kernel

theorem witness_StepsZeroAndOneStartTheExchange :
    (at_ .read 0).fkind ≠ .none ∧ (at_ .read 0).stepIdx = 0 ∧ (at_ .write 1).fkind ≠ .none ∧ (at_ .write 1).stepIdx = 1 := by
  decide

/-- One state per poll step and per outcome of the poll. -/
theorem witness_PollStepsWaitForReadyOrDeadline :
    (at_ .read 2).fkind ≠ .none ∧ (at_ .read 2).stepIdx = 2 ∧ (at_ .read 5).stepIdx = 5 ∧ (at_ .write 8).stepIdx = 8 ∧
    { at_ .read 5 with dr := true, dlexp := true }.dr = true ∧
    { at_ .read 5 with dlexp := true }.dr = false ∧ (at_ .read 5).dlexp = false := by decide

theorem witness_StepThreeDiscardsTheResponse :
    { at_ .read 3 with dr := true, chrx := [1] }.fkind ≠ .none ∧ { at_ .read 3 with dr := true, chrx := [1] }.stepIdx = 3 := by
  decide

theorem witness_SendingStepsSendTheirSlices :
    (at_ .read 4).fkind ≠ .none ∧ (at_ .read 4).flen = 10 ∧ (at_ .read 4).stepIdx = 4 ∧
    (at_ .write 7).flen = 14 ∧ (at_ .write 7).stepIdx = 7 ∧ (at_ .write 10).stepIdx = 10 := by decide

theorem witness_DrainStoreFillsTheReceiveBuffer : 31 < (at_ .read 6).rxcap.toNat ∧
    { at_ .read 6 with chrx := List.replicate 33 1 }.drainStore.rxovf = true := by decide

/-- No byte, a right one and a wrong one. -/
theorem witness_StepSixChecksTheFirstByte :
    (at_ .read 6).fkind ≠ .none ∧ (at_ .read 6).stepIdx = 6 ∧ 7 ≤ (at_ .read 6).rxcap.toNat ∧ (at_ .read 6).chrx = [] ∧
    { at_ .read 6 with chrx := [0x4F, 0x46] }.chrx = 0x4F :: [0x46] ∧
    { at_ .read 6 with chrx := [0x46] }.chrx = 0x46 :: [] := by decide

/-- A write, a read of 7 bytes, a read of 6. -/
theorem witness_StepNineTakesTheData :
    (at_ .write 9).stepIdx = 9 ∧ (at_ .write 9).fkind = .write ∧ 7 ≤ (at_ .write 9).rxcap.toNat ∧
    (at_ .read 9).fkind = .read ∧ { at_ .read 9 with chrx := [0, 1, 2, 3, 4, 5, 6] }.chrx = [0, 1, 2, 3, 4, 5, 6] ∧
    { at_ .read 9 with chrx := [0, 1, 2, 3, 4, 5] }.chrx.length < 7 := by decide

theorem witness_TerminalStepsRecordTheOutcome :
    (at_ .read 20).fkind ≠ .none ∧ (at_ .read 20).stepIdx = 20 ∧ (at_ .read 30).stepIdx = 30 ∧
    (at_ .write 40).stepIdx = 40 := by decide

theorem witness_AdvMakesOneTableMove :
    (at_ .write 10).fkind ≠ .none ∧ (after (exec .adv (at_ .write 10))).map (·.stepIdx) = some 20 := by decide

/-- STEP 11 and 63, and FLEN 0 at each sending step. -/
theorem witness_UnreachableStatesFault :
    (at_ .read 11).fkind ≠ .none ∧ (at_ .read 11).stepIdx ∉ legalSteps ∧ (at_ .read 63).stepIdx ∉ legalSteps ∧
    { at_ .read 4 with flen := 0 }.stepIdx = 4 ∧ { at_ .read 7 with flen := 0 }.stepIdx = 7 ∧
    { at_ .read 10 with flen := 0 }.stepIdx = 10 ∧ { at_ .read 10 with flen := 0 }.flen ≠ 10 ∧
    { at_ .read 10 with flen := 0 }.flen ≠ 14 := by decide

theorem witness_ResultWordArithmetic : (0x0108 : Half) ∈ ([0x0140, 0x0121, 0x0123, 0x0137, 0x0117, 0x0108] : List Half) := by
  decide

/-- The premise `react move s = .next t` of every statement about a move, for an ADV that performs each step `k`. -/
theorem witness_performsStep : ∀ k ∈ legalSteps,
    (at_ .read k).fkind ≠ .none ∧ (at_ .read k).stepIdx = k ∧
      (after (react (.command advWord) (at_ .read k))).isSome = true := by decide +kernel

/-- An arrival, the three drain steps, a reset, and a move that is none of them. -/
theorem witness_DataReadyWriters :
    (after (react (.arrival 1 []) (at_ .read 2))).map (·.dr) = some true ∧
    (after (react (.command advWord) { at_ .read 3 with dr := true, chrx := [1] })).map (·.dr) = some false ∧
    (after (react .reset { at_ .read 3 with dr := true })).map (·.dr) = some false ∧
    (after (react .expiry { at_ .read 3 with dr := true })).map (·.dr) = some true := by decide +kernel

theorem witness_DeadlineWriters :
    (after (react (.command advWord) (at_ .read 1))).map (fun t => (t.dlarm, t.dlexp)) = some (true, false) ∧
    (after (react (.command advWord) (at_ .read 40))).map (fun t => (t.dlarm, t.dlexp)) = some (false, false) ∧
    (after (react .expiry (at_ .read 2))).map (fun t => (t.dlarm, t.dlexp)) = some (true, true) ∧
    (at_ .read 2).dlexp = false ∧ (at_ .read 2).dlarm = true ∧
    (after (react .reset (at_ .read 2))).map (fun t => (t.dlarm, t.dlexp)) = some (false, false) := by decide +kernel

theorem witness_OverflowFlagWriters :
    (after (react (.command advWord) { at_ .read 6 with chrx := List.replicate 33 0x4F })).map (·.rxovf) = some true ∧
    (after (react (.command advWord) { at_ .read 9 with chrx := List.replicate 32 0x4F })).map (·.rxovf) = some false ∧
    (after (react (.command advWord) { at_ .read 3 with rxovf := true })).map (·.rxovf) = some false ∧
    (after (react .expiry { at_ .read 3 with rxovf := true })).map (·.rxovf) = some true := by decide +kernel

theorem witness_ResultWriters :
    7 ≤ (at_ .read 0).rxcap.toNat ∧ 7 ≤ { at_ .read 9 with chrx := [0, 1, 2, 3, 4, 5, 6] }.chrx.length ∧
    (after (react (.command advWord) { at_ .read 9 with chrx := [0, 1, 2, 3, 4, 5, 6] })).map (·.result) = some 0x0605 ∧
    (after (react (.command advWord) { at_ .read 0 with result := 5 })).map (·.result) = some 0 ∧
    (after (react (.command advWord) { at_ .write 9 with result := 5 })).map (·.result) = some 5 := by decide +kernel

theorem witness_OnlyDrainStepsTakeBytes :
    (after (react (.command advWord) { at_ .write 3 with chrx := [1] })).map (·.chrx) = some [] ∧
    (after (react (.arrival 2 [3]) { at_ .write 3 with chrx := [1] })).map (·.chrx) = some [1, 2, 3] ∧
    (after (react .reset { at_ .write 3 with chrx := [1] })).map (·.chrx) = some [1] := by decide +kernel

theorem witness_OnlySendingStepsSend :
    (after (react (.command advWord) (at_ .read 1))).map (·.txlog) = some [1] ∧
    (after (react (.command advWord) (at_ .read 4))).map (·.txlog) = some [2, 3, 4, 5, 6, 7, 8] ∧
    (after (react (.command advWord) (at_ .read 7))).map (·.txlog) = some [9] ∧
    (after (react (.command advWord) (at_ .write 10))).map (·.txlog) = some [13] ∧
    (after (react .expiry (at_ .write 10))).map (·.txlog) = some [] := by decide +kernel

theorem witness_FrameIsFrozenWhileInProgress :
    (after (react (.command 0x3) (at_ .read 1))).isSome = true ∧ (at_ .read 1).inProgress ∧
    Input.command 0x3 ≠ .reset := ⟨by decide, by simp [State.inProgress, at_], by decide⟩

theorem witness_ExpiryIsReadOnlyByPollSteps :
    (at_ .read 9).stepIdx ≠ 2 ∧ (at_ .read 9).stepIdx ≠ 5 ∧ (at_ .read 9).stepIdx ≠ 8 ∧
    (after (exec .adv (at_ .read 9))).isSome = true := by decide +kernel

/-- Enabled, and not: disarmed, and already elapsed. -/
theorem witness_ExpirySetsTheElapsedBit :
    (at_ .read 2).dlarm = true ∧ (at_ .read 2).dlexp = false ∧ State.reset.dlarm = false ∧
    { at_ .read 2 with dlexp := true }.dlexp = true := by decide

/-- The first and the last FB byte, the byte past it, and the last RXB byte. -/
theorem witness_BufferRegistersLayout :
    ((at_ .read 0).readPort 0x08).extractLsb' 0 8 = 1 ∧ ((at_ .read 0).readPort 0x0B).extractLsb' 8 8 = 14 ∧
    ((at_ .read 0).readPort 0x0B).extractLsb' 16 8 = 0 ∧ 7 < ((at_ .read 0).rxcap.toNat + 3) / 4 ∧
    ({ at_ .read 0 with rxb := List.replicate 31 0 ++ [7] }.readPort 0x17).extractLsb' 24 8 = 7 := by decide +kernel

/-- The edges of the reserved ranges. -/
theorem witness_ReadPortHidesTheRest :
    0x05 ≤ (0x07 : Byte).toNat ∧ (0x0C : Byte).toNat ≤ 0x0F ∧
    0x10 + ((at_ .read 0).rxcap.toNat + 3) / 4 ≤ (0x18 : Byte).toNat := by decide

theorem witness_CrcIsTheBitSerialLoop : 2 * 0 + 2 ≤ ([0x12, 0x34] : List Byte).length := by decide

theorem witness_GoldenChecksum : State.reset.stepIdx = 0 := by decide

theorem witness_CrcReadsOnlyItsWords :
    ([1, 2, 3] : List Byte).take (2 * 1) = ([1, 2, 4, 5] : List Byte).take (2 * 1) := by decide

theorem witness_CrcIsPolynomialRemainder : 2 * 2 ≤ ([0x12, 0x34, 0x56, 0x78] : List Byte).length := by decide

theorem witness_CrcIsLinear :
    ([0x12, 0x34] : List Byte).length = ([0xFF, 0x00] : List Byte).length ∧ 2 * 1 ≤ ([0x12, 0x34] : List Byte).length := by
  decide

/-- V-CRC-6: the residue. -/
theorem witness_CrcCornersAndResidue :
    2 * 1 ≤ ([0x12, 0x34] : List Byte).length ∧ ([0x10, 0x01, 0x41, 0x60, 0x00, 0x02] : List Byte).length = 2 * 3 ∧
    crc16 [0x10, 0x01, 0x41, 0x60, 0x00, 0x02, 0x13, 0xD4] 4 = 0 := by decide +kernel

theorem witness_ResetSatisfiesTheInvariant :
    7 ≤ (at_ .read 5).rxcap.toNat ∧ (after (react .reset (at_ .read 5))).isSome = true := by decide

/-- A state in the middle of a transaction that satisfies the invariant. -/
theorem at_inv (kind : FKind) (hk : kind ≠ .none) (k : BitVec 6) (h : k ∈ ([1, 2, 4, 5, 7, 8, 10, 20] : List (BitVec 6))) :
    (at_ kind k).Inv := by
  have facts : ∀ k ∈ ([1, 2, 4, 5, 7, 8, 10, 20] : List (BitVec 6)), k ∈ legalSteps ∧ k ≠ 0 ∧
      diagFits k .processing .none = true ∧ ¬(k = 3 ∨ k = 6 ∨ k = 9) := by decide
  obtain ⟨hl, hne, hd, hn⟩ := facts k h
  have hout : (at_ kind k).outcome = .processing := if_neg hne
  exact {
    rxcap_legal := rfl
    step_legal := hl
    processing_iff := ⟨fun _ => hout, fun _ => hne⟩
    length_fits := rfl
    frame_built := fun e => absurd e hk
    diag_fits := by rw [hout]; exact hd
    rxb_length := rfl
    rxlen_le := Nat.zero_le _
    rxb_tail := fun i _ => byteAt_replicate_zero 32 i
    rxovf_full := fun e => Bool.noConfusion e
    dlexp_armed := fun e => Bool.noConfusion e
    polls_armed := fun _ => decide_eq_true hne
    rest_disarmed := fun e => absurd e hne
    result_bit7 := by show (0 : Half).getLsbD 7 = false; decide
    decout_legal := List.mem_cons_self
    cerrs_sticky := fun e => absurd rfl e
    dr_bytes := fun e => Bool.noConfusion e
    drains_ready := fun e => absurd e hn
    diag_not_empty := nofun }

theorem witness_EveryStepKeepsTheInvariant : ∃ s t : State, s.Inv ∧ step s = .next t ∧ s.inputs = [.command advWord] := by
  have h := at_inv .read (by decide) 5 (by decide)
  exact ⟨{ at_ .read 5 with inputs := [.command advWord] }, _, { h with }, rfl, rfl⟩

theorem witness_EveryMoveCompletes : (at_ .write 4).Inv := at_inv .write (by decide) 4 (by decide)

theorem witness_ProcessingExactlyWhileInProgress :
    ((at_ .read 7).stepIdx ≠ 0 ↔ (at_ .read 7).outcome = .processing) ∧
    (after (react .reset (at_ .read 7))).isSome = true := by decide

theorem witness_MovesArePerformedInOrder :
    (after (perform [.command advWord, .arrival 1 [], .reset] (at_ .read 1))).isSome = true := by decide +kernel

theorem witness_PromptWriteSucceedsInTwelveAdvs :
    (at_ .write 0).fkind = .write ∧ (at_ .write 0).flen = 14 ∧ (at_ .write 0).stepIdx = 0 ∧
    7 ≤ (at_ .write 0).rxcap.toNat := by decide

theorem witness_PromptReadSucceedsInTwelveAdvs :
    (at_ .read 0).fkind = .read ∧ (at_ .read 0).flen = 10 ∧ (at_ .read 0).stepIdx = 0 ∧
    7 ≤ (at_ .read 0).rxcap.toNat := by decide

/-- Each cause of failure. -/
theorem witness_FailuresAreRecorded :
    (at_ .read 2).fkind ≠ .none ∧ 7 ≤ (at_ .read 2).rxcap.toNat ∧ (at_ .read 2).stepIdx = 2 ∧ (at_ .read 2).dr = false ∧
    (at_ .read 2).dlarm = true ∧ (at_ .read 5).dlarm = true ∧ (at_ .read 8).dlarm = true ∧
    { at_ .read 6 with chrx := [0x46] }.chrx = 0x46 :: [] ∧ (0x46 : Byte) ≠ 0x4F ∧ (at_ .read 6).chrx = [] ∧
    (at_ .read 9).stepIdx = 9 ∧ (at_ .read 9).fkind = .read ∧
    { at_ .read 9 with chrx := [1, 2, 3, 4, 5, 6] }.chrx.length < 7 := by decide

theorem witness_AdvAfterTerminalRestarts :
    (at_ .read 20).fkind ≠ .none ∧ (at_ .read 20).stepIdx = 20 ∧ (at_ .read 30).stepIdx = 30 ∧
    (at_ .write 40).stepIdx = 40 := by decide

/-- The states of an endless run in which the device never answers, one per move: at step 2 with the deadline elapsed, at
step 40, at rest, at step 1, and at step 2 again. -/
def cycleState (r : Nat) (log : List Byte) : State :=
  match r with
  | 0 => { at_ .read 2 with txlog := log, dlexp := true }
  | 1 | 2 => { at_ .read 2 with txlog := log, dlexp := true, diag := .timeoutP1, stepIdx := 40 }
  | 3 | 4 => { at_ .read 2 with txlog := log, dlarm := false, diag := .timeoutP1, stepIdx := 0, outcome := .timedOut }
  | 5 | 6 => { at_ .read 2 with txlog := log, dlarm := false, stepIdx := 1 }
  | _ => { at_ .read 2 with txlog := log }

/-- ADV and expiry by turns. -/
def turn (k : Nat) : Input := if k % 2 = 0 then .command advWord else .expiry

theorem cycle_moves (log : List Byte) :
    react (.command advWord) (cycleState 0 log) = .next (cycleState 1 log) ∧
    react .expiry (cycleState 1 log) = .next (cycleState 2 log) ∧
    react (.command advWord) (cycleState 2 log) = .next (cycleState 3 log) ∧
    react .expiry (cycleState 3 log) = .next (cycleState 4 log) ∧
    react (.command advWord) (cycleState 4 log) = .next (cycleState 5 log) ∧
    react .expiry (cycleState 5 log) = .next (cycleState 6 log) ∧
    react (.command advWord) (cycleState 6 log) = .next (cycleState 7 (log ++ [1])) ∧
    react .expiry (cycleState 7 log) = .next (cycleState 0 log) := ⟨rfl, rfl, rfl, rfl, rfl, rfl, rfl, rfl⟩

theorem cycle_isRun : IsRun (fun k => cycleState (k % 8) (List.replicate ((k + 1) / 8) 1)) turn where
  next k := by
    obtain ⟨q, r, hr, rfl⟩ : ∃ q r, r < 8 ∧ k = 8 * q + r := ⟨k / 8, k % 8, by omega, by omega⟩
    have h1 : (8 * q + r) % 8 = r := by omega
    have h2 : (8 * q + r) % 2 = r % 2 := by omega
    have h3 : (8 * q + r + 1) / 8 = if r = 7 then q + 1 else q := by split_ifs <;> omega
    have h4 : (8 * q + r + 1 + 1) / 8 = if 6 ≤ r then q + 1 else q := by split_ifs <;> omega
    have h5 : (8 * q + r + 1) % 8 = if r = 7 then 0 else r + 1 := by split_ifs <;> omega
    have hlog : List.replicate (q + 1) (1 : Byte) = List.replicate q 1 ++ [1] := List.replicate_succ'
    obtain ⟨m0, m1, m2, m3, m4, m5, m6, -⟩ := cycle_moves (List.replicate q 1)
    obtain ⟨-, -, -, -, -, -, -, m7⟩ := cycle_moves (List.replicate (q + 1) 1)
    simp only [turn, h1, h2, h3, h4, h5]
    interval_cases r
    · exact m0
    · exact m1
    · exact m2
    · exact m3
    · exact m4
    · exact m5
    · exact hlog ▸ m6
    · exact m7

theorem witness_EveryTransactionEnds : ∃ (run : Nat → State) (move : Nat → Input), (run 0).Inv ∧ IsRun run move ∧
    (∀ k, move k ≠ .reset) ∧ HostKeepsAdvancing move ∧ FairExpiry run move ∧ (run 0).inProgress := by
  have hi := at_inv .read (by decide) 2 (by decide)
  have h0 : ({ at_ .read 2 with dlexp := true } : State).Inv := { hi with dlexp_armed := fun _ => rfl }
  refine ⟨_, turn, ?_, cycle_isRun, ?_, ?_, ?_, ?_⟩
  · exact h0
  · intro k h
    unfold turn at h
    split_ifs at h
  · exact fun k => ⟨2 * k, by omega, if_pos (by omega)⟩
  · exact fun k => ⟨2 * k + 1, by omega, .inr (if_neg (by omega))⟩
  · show (2 : BitVec 6) ≠ 0
    decide

end Sys2Proof.Tests.Slice0
end

section
/-! One step of the machine (00_scope.md R7; 20_memory.md R71): which move it performs, what that move runs, and that the
moves still to come have no part in what a move does. -/

namespace Sys2Proof.Machine

/-! ### The move a step performs -/

theorem step_cons {s : State} {move : Input} {later : List Input} (h : s.inputs = move :: later) :
    step s = react move { s with inputs := later } := by
  rw [step, h]

/-- The word that is put in front is the move performed, on the state as it was. -/
theorem step_withFetchWord (s : State) (nbits w : Nat) :
    step (s.withFetchWord nbits w) = react (.ofPortWord (tablePortWord nbits w)) s :=
  step_cons rfl

theorem react_command {c : CommandWord} {i : Instr} (h : decode (.command c) = .ok i) (s : State) :
    react (.command c) s = exec i s := by
  rw [react, h]

/-- R85: a reserved word has one effect. -/
theorem react_reserved {c : CommandWord} {reason : DecodeError} (h : decode (.command c) = .error reason) (s : State) :
    react (.command c) s = .next (s.illegalCommand reason) := by
  rw [react, h]

/-- R94: a wire word that decodes is one of the two headers. -/
theorem decode_wire_cases {w : Half} {i : Instr} (h : decode (.wire w) = .ok i) :
    (w = readFrameHeader ∧ i = .readFrame) ∨ (w = writeFrameHeader ∧ i = .writeFrame) := by
  change decodeWire w = .ok i at h
  unfold decodeWire at h
  split_ifs at h with hr hw <;> cases h
  · exact .inl ⟨hr, rfl⟩
  · exact .inr ⟨hw, rfl⟩

/-- The move of a port word runs the instruction the word decodes to, on either port. -/
theorem react_ofPortWord {p : PortWord} {i : Instr} (h : decode p = .ok i) (s : State) :
    react (.ofPortWord p) s = exec i s := by
  cases p with
  | command c => exact react_command h s
  | wire w => obtain ⟨rfl, rfl⟩ | ⟨rfl, rfl⟩ := decode_wire_cases h <;> rfl

theorem decode_tablePortWord {nbits w : Nat} {i : Instr} (h : decodeTableWord nbits w = some i) :
    decode (tablePortWord nbits w) = .ok i := by
  unfold decodeTableWord at h
  split at h
  next hd => cases h; exact hd
  next => cases h

/-! ### The moves to come have no part in a move -/

/-- The state with other moves still to come. -/
def State.withMoves (later : List Input) (s : State) : State := { s with inputs := later }

/-- The answer of a move with other moves still to come. -/
def Result.withMoves (later : List Input) : Result → Result
  | .next t => .next (t.withMoves later)
  | .fault r => .fault r
  | .refused r => .refused r

section
variable (later : List Input) (s : State)

@[simp] theorem State.withMoves_stepIdx : (s.withMoves later).stepIdx = s.stepIdx := rfl
@[simp] theorem State.withMoves_fkind : (s.withMoves later).fkind = s.fkind := rfl

theorem poll_withMoves (next : BitVec 6) (code : Diag) :
    (s.withMoves later).poll next code = (s.poll next code).withMoves later := by
  simp only [State.poll, apply_ite (State.withMoves later)]
  rfl

theorem expire_withMoves : (s.withMoves later).expire = s.expire.withMoves later := by
  simp only [State.expire, apply_ite (State.withMoves later)]
  rfl

theorem stepCheckAck_withMoves : (s.withMoves later).stepCheckAck = s.stepCheckAck.withMoves later := by
  simp only [State.stepCheckAck, apply_ite (State.withMoves later)]
  rfl

theorem stepTakeRead_withMoves : (s.withMoves later).stepTakeRead = s.stepTakeRead.withMoves later := by
  simp only [State.stepTakeRead, apply_ite (State.withMoves later)]
  rfl

theorem unlessBusy_withMoves (accepted : State) :
    (s.withMoves later).unlessBusy (accepted.withMoves later) = Result.withMoves later (s.unlessBusy accepted) := by
  simp only [State.unlessBusy, apply_ite (Result.withMoves later)]
  rfl

/-- A step that needs the frame's length, when the step itself does not read the moves to come. -/
theorem withFrameLength_withMoves {act : Nat → State → State}
    (h : ∀ length, act length (s.withMoves later) = (act length s).withMoves later) :
    (s.withMoves later).withFrameLength act = Result.withMoves later (s.withFrameLength act) := by
  have hl : (s.withMoves later).frameLength? = s.frameLength? := rfl
  unfold State.withFrameLength
  rw [hl]
  cases s.frameLength? with
  | none => rfl
  | some length => exact congrArg (fun t : State => Host.Outcome.next t.accept) (h length)

theorem performStep_withMoves :
    (s.withMoves later).performStep = Result.withMoves later s.performStep := by
  unfold State.performStep
  rw [State.withMoves_stepIdx]
  split
  case h_3 | h_6 | h_9 => exact congrArg (fun t : State => Host.Outcome.next t.accept) (poll_withMoves later s ..)
  case h_7 => exact congrArg (fun t : State => Host.Outcome.next t.accept) (stepCheckAck_withMoves later s)
  case h_5 | h_8 | h_11 => exact withFrameLength_withMoves later s fun _ => rfl
  case h_10 =>
    rw [State.withMoves_fkind, stepTakeRead_withMoves]
    split_ifs <;> rfl
  all_goals rfl

theorem exec_withMoves (i : Instr) : exec i (s.withMoves later) = Result.withMoves later (exec i s) := by
  cases i with
  | wrbuf pos val =>
    simp only [exec, execWrbuf, apply_ite (Result.withMoves later), ← unlessBusy_withMoves]
    rfl
  | crc16 n =>
    simp only [exec, execCrc16, apply_ite (Result.withMoves later)]
    rfl
  | buildr index subindex =>
    exact unlessBusy_withMoves later s
      (s.loadFrame (readFrameBytes index subindex) 10 .read (readFrameCrc index subindex))
  | buildw index data =>
    exact unlessBusy_withMoves later s
      (s.loadFrame (writeFrameBytes index data) 14 .write (writeFrameCrc index data))
  | adv =>
    simp only [exec, execAdv, apply_ite (Result.withMoves later), ← performStep_withMoves]
    rfl
  | dec status => rfl
  | readFrame => rfl
  | writeFrame => rfl

/-- A move answers the same, whatever moves are still to come. -/
theorem react_withMoves (move : Input) :
    react move (s.withMoves later) = Result.withMoves later (react move s) := by
  cases move with
  | command c =>
    cases hd : decode (.command c) with
    | ok i => rw [react_command hd, react_command hd, exec_withMoves]
    | error reason => rw [react_reserved hd, react_reserved hd]; rfl
  | arrival first rest => rfl
  | expiry => exact congrArg Host.Outcome.next (expire_withMoves later s)
  | reset => rfl

end

/-- A move leaves the moves to come as they are. -/
theorem react_inputs {move : Input} {s t : State} (h : react move s = .next t) : t.inputs = s.inputs := by
  have hself : react move s = Result.withMoves s.inputs (react move s) := react_withMoves s.inputs s move
  rw [h] at hself
  have ht : t = t.withMoves s.inputs := Host.Outcome.next.inj hself
  calc t.inputs
    _ = (t.withMoves s.inputs).inputs := congrArg State.inputs ht
    _ = s.inputs := rfl

/-! ### A listed schedule, a step at a time -/

/-- A run of one step more, when the first step answers a next state. -/
theorem run_succ {s t : State} (h : step s = .next t) (k : Nat) : core.run (k + 1) s = core.run k t := by
  have hc : core.step s = .next t := h
  simp only [Host.Core.run, hc]

/-- The machine performs a listed schedule one move per step, in the list's order; the moves listed behind it stay. -/
theorem run_of_perform {moves : List Input} {s t : State} (h : perform moves s = .next t) :
    core.run moves.length (s.withMoves (moves ++ s.inputs)) = .next t := by
  induction moves generalizing s with
  | nil => exact h
  | cons move later ih =>
    unfold perform at h
    split at h
    case h_1 u hu =>
      have hstep : step (s.withMoves (move :: later ++ s.inputs)) = .next (u.withMoves (later ++ u.inputs)) := by
        calc step (s.withMoves (move :: later ++ s.inputs))
          _ = react move (s.withMoves (later ++ s.inputs)) := step_cons rfl
          _ = Result.withMoves (later ++ s.inputs) (react move s) := react_withMoves ..
          _ = .next (u.withMoves (later ++ u.inputs)) := by rw [hu, react_inputs hu]; rfl
      exact (run_succ hstep _).trans (ih h)
    all_goals cases h

/-- Settles O55, by induction on the list of moves: each step takes one, and a move neither reads nor changes the list. -/
theorem movesArePerformedInOrder : Obligations.MovesArePerformedInOrder :=
  fun _ _ _ h => run_of_perform h

/-- Settles O6: the step performs the oldest move, and the move of a word runs the instruction it decodes to. -/
theorem stepRunsTheDecodedInstruction : Obligations.StepRunsTheDecodedInstruction := by
  refine ⟨fun s c later i hs hd => ?_, fun s nbits w i hd => ?_⟩
  · rw [step_cons hs, react_command hd]
  · rw [step_withFetchWord, react_ofPortWord (decode_tablePortWord hd)]

end Sys2Proof.Machine
end

section
/-! The words the assembler emits (30_encoding.md R87): a command word as its shifted fields (R80), an integer operand as the
field it fills (00_scope.md R15), and the refusal of an operand outside its range. -/

namespace Sys2Proof.Machine

/-- R80: a command word is its five fields, each shifted to its place. -/
theorem wordOf_eq_shifts (f : CommandFields) : wordOf f =
    (f.d.setWidth 64 <<< 32) ||| (f.h.setWidth 64 <<< 16) ||| (f.b.setWidth 64 <<< 8) ||| (f.z.setWidth 64 <<< 4) |||
      f.op.setWidth 64 := by
  apply BitVec.eq_of_getLsbD_eq
  intro i hi
  simp only [wordOf, BitVec.getLsbD_append, BitVec.getLsbD_or, BitVec.getLsbD_shiftLeft, BitVec.getLsbD_setWidth]
  grind

/-- R15: the field that an integer fills is the integer modulo two to its width. -/
theorem setWidth_ofInt {w : Nat} (hw : w ≤ 64) (v : Int) :
    (BitVec.ofInt w v).setWidth 64 = BitVec.ofInt 64 (v % 2 ^ w) := by
  apply BitVec.eq_of_toNat_eq
  have h0 : 0 ≤ v % 2 ^ w := Int.emod_nonneg _ (by positivity)
  have h1 : v % 2 ^ w < 2 ^ w := Int.emod_lt_of_pos _ (by positivity)
  have h2 : (2 : Int) ^ w ≤ 2 ^ 64 := pow_le_pow_right₀ (by norm_num) hw
  have h3 : v % 2 ^ w % 2 ^ 64 = v % 2 ^ w := Int.emod_eq_of_lt h0 (by omega)
  simp only [BitVec.toNat_setWidth, BitVec.toNat_ofInt, Nat.cast_pow, Nat.cast_ofNat, h3]
  exact Nat.mod_eq_of_lt (by omega)

/-- An operand in `0 .. 2^w - 1` is its field. -/
theorem setWidth_ofInt_of_lt {w : Nat} (hw : w ≤ 64) {v : Int} (h0 : 0 ≤ v) (h1 : v < 2 ^ w) :
    (BitVec.ofInt w v).setWidth 64 = BitVec.ofInt 64 v := by
  rw [setWidth_ofInt hw, Int.emod_eq_of_lt h0 h1]

theorem setWidth_zero_append (val : Byte) : (0#8 ++ val : Half).setWidth 64 = val.setWidth 64 := by
  apply BitVec.eq_of_getLsbD_eq
  intro i hi
  simp only [BitVec.getLsbD_setWidth, BitVec.getLsbD_append, BitVec.getLsbD_zero]
  grind

/-! ### The command words of R83, field by field -/

theorem encode_wrbuf (pos val : Byte) : encode (.wrbuf pos val) =
    .command ((val.setWidth 64 <<< 16) ||| (pos.setWidth 64 <<< 8) ||| 0x1) := by
  simp [encode, wordOf_eq_shifts, setWidth_zero_append]

theorem encode_crc16 (n : Byte) : encode (.crc16 n) = .command ((n.setWidth 64 <<< 8) ||| 0x2) := by
  simp [encode, wordOf_eq_shifts]

theorem encode_buildr (index : Half) (subindex : Byte) : encode (.buildr index subindex) =
    .command ((index.setWidth 64 <<< 16) ||| (subindex.setWidth 64 <<< 8) ||| 0x3) := by
  simp [encode, wordOf_eq_shifts]

theorem encode_buildw (index : Half) (data : Word) : encode (.buildw index data) =
    .command ((data.setWidth 64 <<< 32) ||| (index.setWidth 64 <<< 16) ||| 0x4) := by
  simp [encode, wordOf_eq_shifts]

theorem encode_dec (status : Half) : encode (.dec status) = .command ((status.setWidth 64 <<< 16) ||| 0x6) := by
  simp [encode, wordOf_eq_shifts]

/-! ### Assembling a line -/

theorem inRange_iff (lo hi v : Int) : inRange lo hi v = true ↔ lo ≤ v ∧ v ≤ hi := by
  simp [inRange]

theorem assemble_refused {line : AsmLine} (h : ¬line.wellFormed = true) : assemble line = none := if_neg h

/-- What an assembler answers for a line whose operands have the range `range`: the word of the instruction `i` it assembles
to, or a refusal. -/
theorem map_encode_assemble {line : AsmLine} {i : Instr} {word : CommandWord} {range : Prop} [Decidable range]
    (hrange : line.wellFormed = true ↔ range) (hline : line.wellFormed = true → assemble line = some i)
    (hword : range → encode i = .command word) :
    (assemble line).map encode = if range then some (.command word) else none := by
  split_ifs with h
  · rw [hline (hrange.mpr h), Option.map_some, hword h]
  · rw [assemble_refused (mt hrange.mp h), Option.map_none]

theorem assemble_wrbuf (pos val : Int) : (assemble (.wrbuf pos val)).map encode =
    if 0 ≤ pos ∧ pos ≤ 255 ∧ 0 ≤ val ∧ val ≤ 255 then
      some (.command ((BitVec.ofInt 64 val <<< 16) ||| (BitVec.ofInt 64 pos <<< 8) ||| 0x1)) else none := by
  refine map_encode_assemble (by simp [AsmLine.wellFormed, inRange_iff, and_assoc]) (fun h => if_pos h) ?_
  rintro ⟨hp0, hp1, hv0, hv1⟩
  rw [encode_wrbuf, setWidth_ofInt_of_lt (by omega) hv0 (by omega), setWidth_ofInt_of_lt (by omega) hp0 (by omega)]

theorem assemble_crc16 (n : Int) : (assemble (.crc16 n)).map encode =
    if 0 ≤ n ∧ n ≤ 255 then some (.command ((BitVec.ofInt 64 n <<< 8) ||| 0x2)) else none := by
  refine map_encode_assemble (inRange_iff ..) (fun h => if_pos h) ?_
  rintro ⟨hn0, hn1⟩
  rw [encode_crc16, setWidth_ofInt_of_lt (by omega) hn0 (by omega)]

theorem assemble_buildr (index subindex : Int) : (assemble (.buildr index subindex)).map encode =
    if -32768 ≤ index ∧ index ≤ 0xFFFF ∧ 0 ≤ subindex ∧ subindex ≤ 255 then
      some (.command ((BitVec.ofInt 64 (index % 65536) <<< 16) ||| (BitVec.ofInt 64 subindex <<< 8) ||| 0x3))
    else none := by
  refine map_encode_assemble (by simp [AsmLine.wellFormed, inRange_iff, and_assoc]) (fun h => if_pos h) ?_
  rintro ⟨-, -, hs0, hs1⟩
  rw [encode_buildr, setWidth_ofInt (by omega), setWidth_ofInt_of_lt (by omega) hs0 (by omega)]
  rfl

theorem assemble_buildw (index data : Int) : (assemble (.buildw index data)).map encode =
    if -32768 ≤ index ∧ index ≤ 0xFFFF ∧ -2147483648 ≤ data ∧ data ≤ 0xFFFFFFFF then
      some (.command ((BitVec.ofInt 64 (data % 4294967296) <<< 32) ||| (BitVec.ofInt 64 (index % 65536) <<< 16) ||| 0x4))
    else none := by
  refine map_encode_assemble (by simp [AsmLine.wellFormed, inRange_iff, and_assoc]) (fun h => if_pos h) ?_
  intro
  rw [encode_buildw, setWidth_ofInt (by omega), setWidth_ofInt (by omega)]
  rfl

theorem assemble_dec (status : Int) : (assemble (.dec status)).map encode =
    if 0 ≤ status ∧ status ≤ 0xFFFF then some (.command ((BitVec.ofInt 64 status <<< 16) ||| 0x6)) else none := by
  refine map_encode_assemble (inRange_iff ..) (fun h => if_pos h) ?_
  rintro ⟨hs0, hs1⟩
  rw [encode_dec, setWidth_ofInt_of_lt (by omega) hs0 (by omega)]

/-- Settles O7, mnemonic by mnemonic: the line's range decides, and in range the word is R80's shifted fields. -/
theorem assemblerEncodesAndRefuses : Obligations.AssemblerEncodesAndRefuses :=
  ⟨assemble_wrbuf, assemble_crc16, assemble_buildr, assemble_buildw, by decide, assemble_dec⟩

end Sys2Proof.Machine
end

section
/-! The invariant of the machine (`State.Inv`): what it says of the stored data and what it says of the transaction
controller are kept by each operation for reasons of its own, so the two halves are proved apart. -/

namespace Sys2Proof.Machine

/-! ### The two halves of the invariant -/

/-- The half of the invariant about stored data: the frame's length, RXB, RESULT, DECOUT, CERR and DR's bytes. -/
structure State.DataInv (s : State) : Prop where
  rxcap_legal : Config.rxcapLegal s.rxcap = true
  length_fits : s.flen = s.fkind.length
  rxb_length : s.rxb.length = s.rxcap.toNat
  rxlen_le : s.rxlen.toNat ≤ s.rxcap.toNat
  rxb_tail : ∀ i, s.rxlen.toNat ≤ i → byteAt s.rxb i = 0
  rxovf_full : s.rxovf = true → s.rxlen = s.rxcap
  result_bit7 : s.result.getLsbD 7 = false
  decout_legal : s.decout ∈ legalDecout
  cerrs_sticky : s.cerr ≠ .ok → s.cerrs = true
  dr_bytes : s.dr = true → s.chrx ≠ []

/-- The half of the invariant about the transaction controller: STEP, OUTCOME, DIAG and the deadline. -/
structure State.ControlInv (s : State) : Prop where
  step_legal : s.stepIdx ∈ legalSteps
  processing_iff : s.stepIdx ≠ 0 ↔ s.outcome = .processing
  frame_built : s.fkind = .none → s.stepIdx = 0 ∧ s.outcome = .idle
  diag_fits : diagFits s.stepIdx s.outcome s.diag = true
  dlexp_armed : s.dlexp = true → s.dlarm = true
  polls_armed : s.stepIdx = 2 ∨ s.stepIdx = 5 ∨ s.stepIdx = 8 → s.dlarm = true
  rest_disarmed : s.stepIdx = 0 → s.dlarm = false
  drains_ready : s.stepIdx = 3 ∨ s.stepIdx = 6 ∨ s.stepIdx = 9 → s.dr = true
  diag_not_empty : s.diag ≠ .empty

theorem State.Inv.data {s : State} (h : s.Inv) : s.DataInv := { h with }

theorem State.Inv.control {s : State} (h : s.Inv) : s.ControlInv := { h with }

theorem State.Inv.of_halves {s : State} (hd : s.DataInv) (hc : s.ControlInv) : s.Inv := { hd, hc with }

/-! ### The data half, operation by operation -/

/-- 42_transaction.md R175: the mask leaves bit 7 of a result word clear. -/
theorem resultWord_bit7 (byte5 byte6 : Byte) : (resultWord byte5 byte6).getLsbD 7 = false := by
  have hdisjoint : (zext16 byte6 <<< 8) &&& (zext16 byte5 &&& Config.statusMask) = 0 := by
    apply BitVec.eq_of_getLsbD_eq
    intro i hi
    by_cases h8 : i < 8
    · simp [zext16, h8]
    · simp [zext16, h8, BitVec.getLsbD_of_ge byte5 i (by omega)]
  rw [resultWord, BitVec.add_eq_or_of_and_eq_zero _ _ hdisjoint]
  simp [zext16]

namespace State.DataInv
variable {s : State} (h : s.DataInv)
include h

theorem accept : s.accept.DataInv := { h with cerrs_sticky := fun e => absurd rfl e }

theorem raiseCmdError (code : CmdStatus) : (s.raiseCmdError code).DataInv := { h with cerrs_sticky := fun _ => rfl }

theorem send (bytes : List Byte) : (s.send bytes).DataInv := { h with }

theorem arm : s.arm.DataInv := { h with }

theorem goto (k : BitVec 6) : (s.goto k).DataInv := { h with }

theorem jumpWith (code : Diag) (k : BitVec 6) : (s.jumpWith code k).DataInv := { h with }

theorem finish (o : TxnOutcome) : (s.finish o).DataInv := { h with }

theorem withResult {r : Half} (hr : r.getLsbD 7 = false) : { s with result := r }.DataInv :=
  { h with result_bit7 := hr }

theorem stepStart : s.stepStart.DataInv := { h with result_bit7 := by simp [State.stepStart] }

theorem drainStore : s.drainStore.DataInv :=
  { h with
    rxb_length := drainStore_rxb_length s
    rxlen_le := drainStore_rxlen_le s
    rxb_tail := drainStore_rxb_tail s
    rxovf_full := drainStore_rxovf_full s
    dr_bytes := fun e => Bool.noConfusion e }

theorem drainDiscard : s.drainDiscard.DataInv :=
  { h with
    rxb_length := List.length_replicate
    rxlen_le := Nat.zero_le _
    rxb_tail := fun i _ => byteAt_replicate_zero _ i
    rxovf_full := fun e => Bool.noConfusion e
    dr_bytes := fun e => Bool.noConfusion e }

theorem poll (next : BitVec 6) (code : Diag) : (s.poll next code).DataInv := by
  obtain ⟨-, e⟩ | ⟨-, -, e⟩ | ⟨-, -, e⟩ := poll_cases next code s <;> rw [e]
  · exact h.goto next
  · exact h.jumpWith code 40
  · exact h

theorem stepCheckAck : s.stepCheckAck.DataInv := by
  obtain ⟨-, -, e⟩ | ⟨-, e⟩ | ⟨-, -, e⟩ := stepCheckAck_cases s <;> rw [e]
  · exact h.drainStore.goto 7
  · exact h.drainStore.jumpWith .empty 30
  · exact h.drainStore.jumpWith .badAck 30

theorem stepTakeRead : s.stepTakeRead.DataInv := by
  obtain ⟨-, e⟩ | ⟨-, e⟩ := stepTakeRead_cases s <;> rw [e]
  · exact (h.drainStore.withResult (resultWord_bit7 _ _)).goto 10
  · exact h.drainStore.jumpWith .decode 30

theorem loadFrame (bytes : Vector Byte 14) (kind : FKind) (crc : Half) :
    (s.loadFrame bytes kind.length kind crc).DataInv := { h with length_fits := rfl }

theorem advStep {t : State} (hstep : AdvStep s t) : t.DataInv := by
  cases hstep with
  | start => exact h.stepStart.accept
  | sendOpcode => exact ((h.send _).arm.goto 2).accept
  | pollOpcode => exact (h.poll 3 .timeoutP1).accept
  | discard => exact (h.drainDiscard.goto 4).accept
  | sendBody => exact ((h.send _).arm.goto 5).accept
  | pollBody => exact (h.poll 6 .timeoutP2).accept
  | checkAck => exact h.stepCheckAck.accept
  | sendAck => exact ((h.send _).arm.goto 8).accept
  | pollData => exact (h.poll 9 .timeoutP3).accept
  | takeRead => exact h.stepTakeRead.accept
  | takeWrite => exact (h.drainStore.goto 10).accept
  | finalAck => exact ((h.send _).goto 20).accept
  | success => exact (h.finish .success).accept
  | failed => exact (h.finish .failed).accept
  | timedOut => exact (h.finish .timedOut).accept

end State.DataInv

/-! ### The control half -/

/-- The steps of a transaction on its way to success (42_transaction.md R171): those with no failure recorded. -/
def forwardSteps : List (BitVec 6) := [1, 2, 3, 4, 5, 6, 7, 8, 9, 10, 20]

/-- The jumps of a failed check (60_exceptions.md R225) that are reachable: a DIAG code with its terminal step. -/
def failureJumps : List (Diag × BitVec 6) :=
  [(.badAck, 30), (.decode, 30), (.timeoutP1, 40), (.timeoutP2, 40), (.timeoutP3, 40)]

/-- What holds throughout a transaction on its way to success. -/
structure State.Running (s : State) : Prop where
  frame_built : s.fkind ≠ .none
  processing : s.outcome = .processing
  no_diag : s.diag = .none
  dlexp_armed : s.dlexp = true → s.dlarm = true

theorem forwardSteps_legal : ∀ k ∈ forwardSteps, k ∈ legalSteps ∧ k ≠ 0 := by decide

theorem diagFits_forward : ∀ k ∈ forwardSteps, ∀ o d, diagFits k o d = (d == .none) := by
  intro k hk o d
  have hne : ∀ k ∈ forwardSteps, k ≠ 0 ∧ k ≠ 30 ∧ k ≠ 40 := by decide
  obtain ⟨h0, h30, h40⟩ := hne k hk
  simp only [diagFits, if_neg h0, if_neg h30, if_neg h40]

theorem failureJumps_fit : ∀ j ∈ failureJumps,
    j.2 ∈ legalSteps ∧ j.2 ≠ 0 ∧ diagFits j.2 .processing j.1 = true ∧ j.1 ≠ .empty ∧
      ¬(j.2 = 2 ∨ j.2 = 5 ∨ j.2 = 8) ∧ ¬(j.2 = 3 ∨ j.2 = 6 ∨ j.2 = 9) := by decide

theorem State.ControlInv.running {s : State} (h : s.ControlInv) (hk : s.fkind ≠ .none) (hs : s.stepIdx ∈ forwardSteps) :
    s.Running where
  frame_built := hk
  processing := h.processing_iff.mp (forwardSteps_legal _ hs).2
  no_diag := by simpa [diagFits_forward _ hs] using h.diag_fits
  dlexp_armed := h.dlexp_armed

namespace State.Running
variable {s : State} (h : s.Running)
include h

theorem send (bytes : List Byte) : (s.send bytes).Running := { h with }

theorem arm : s.arm.Running := { h with dlexp_armed := fun _ => rfl }

theorem drainStore : s.drainStore.Running := { h with }

theorem drainDiscard : s.drainDiscard.Running := { h with }

theorem withResult (r : Half) : { s with result := r }.Running := { h with }

/-- Going on to a step of the way to success: a poll step needs the deadline armed, a drain step a ready byte. -/
theorem goto {k : BitVec 6} (hk : k ∈ forwardSteps) (hpoll : k = 2 ∨ k = 5 ∨ k = 8 → s.dlarm = true)
    (hdrain : k = 3 ∨ k = 6 ∨ k = 9 → s.dr = true) : (s.goto k).ControlInv where
  step_legal := (forwardSteps_legal k hk).1
  processing_iff := ⟨fun _ => h.processing, fun _ => (forwardSteps_legal k hk).2⟩
  frame_built := fun e => absurd e h.frame_built
  diag_fits := by simp [diagFits_forward k hk, h.no_diag]
  dlexp_armed := h.dlexp_armed
  polls_armed := hpoll
  rest_disarmed := fun e => absurd e (forwardSteps_legal k hk).2
  drains_ready := hdrain
  diag_not_empty := by simp [h.no_diag]

/-- Going on to a step that is neither a poll nor a drain needs nothing. -/
theorem goto_plain {k : BitVec 6} (hk : k ∈ ([1, 4, 7, 10, 20] : List (BitVec 6))) : (s.goto k).ControlInv := by
  have hplain : ∀ k ∈ ([1, 4, 7, 10, 20] : List (BitVec 6)),
      k ∈ forwardSteps ∧ ¬(k = 2 ∨ k = 5 ∨ k = 8) ∧ ¬(k = 3 ∨ k = 6 ∨ k = 9) := by decide
  obtain ⟨hf, hpoll, hdrain⟩ := hplain k hk
  exact h.goto hf (fun e => absurd e hpoll) (fun e => absurd e hdrain)

/-- A sending step arms the deadline of the poll step it goes on to. -/
theorem arm_goto_poll {k : BitVec 6} (hk : k ∈ ([2, 5, 8] : List (BitVec 6))) : (s.arm.goto k).ControlInv := by
  have hpoll : ∀ k ∈ ([2, 5, 8] : List (BitVec 6)), k ∈ forwardSteps ∧ ¬(k = 3 ∨ k = 6 ∨ k = 9) := by decide
  obtain ⟨hf, hdrain⟩ := hpoll k hk
  exact h.arm.goto hf (fun _ => rfl) (fun e => absurd e hdrain)

/-- A poll step goes on to its drain step with a byte ready. -/
theorem goto_drain {k : BitVec 6} (hk : k ∈ ([3, 6, 9] : List (BitVec 6))) (hdr : s.dr = true) :
    (s.goto k).ControlInv := by
  have hdrain : ∀ k ∈ ([3, 6, 9] : List (BitVec 6)), k ∈ forwardSteps ∧ ¬(k = 2 ∨ k = 5 ∨ k = 8) := by decide
  obtain ⟨hf, hpoll⟩ := hdrain k hk
  exact h.goto hf (fun e => absurd e hpoll) (fun _ => hdr)

theorem jumpWith {code : Diag} {k : BitVec 6} (hj : (code, k) ∈ failureJumps) : (s.jumpWith code k).ControlInv := by
  obtain ⟨hlegal, hne, hfit, hempty, hpoll, hdrain⟩ := failureJumps_fit _ hj
  exact {
    step_legal := hlegal
    processing_iff := ⟨fun _ => h.processing, fun _ => hne⟩
    frame_built := fun e => absurd e h.frame_built
    diag_fits := by simpa [h.processing] using hfit
    dlexp_armed := h.dlexp_armed
    polls_armed := fun e => absurd e hpoll
    rest_disarmed := fun e => absurd e hne
    drains_ready := fun e => absurd e hdrain
    diag_not_empty := hempty }

end State.Running

namespace State.ControlInv
variable {s : State} (h : s.ControlInv)
include h

theorem accept : s.accept.ControlInv := { h with }

theorem raiseCmdError (code : CmdStatus) : (s.raiseCmdError code).ControlInv := { h with }

/-- Step 0 starts from rest, where the deadline is disarmed. -/
theorem stepStart (hk : s.fkind ≠ .none) : s.stepStart.ControlInv := by
  have hstarted : { s with outcome := .processing, diag := .none, result := 0 }.Running :=
    { frame_built := hk, processing := rfl, no_diag := rfl, dlexp_armed := h.dlexp_armed }
  exact hstarted.goto_plain (by decide)

/-- A poll step goes on with a byte ready, fails on an expired deadline, or waits with its deadline armed. -/
theorem poll (hk : s.fkind ≠ .none) (hs : s.stepIdx ∈ forwardSteps) {next : BitVec 6} {code : Diag}
    (hnext : next ∈ ([3, 6, 9] : List (BitVec 6))) (hj : (code, 40) ∈ failureJumps) :
    (s.poll next code).ControlInv := by
  obtain ⟨hdr, e⟩ | ⟨-, -, e⟩ | ⟨-, -, e⟩ := poll_cases next code s <;> rw [e]
  · exact (h.running hk hs).goto_drain hnext hdr
  · exact (h.running hk hs).jumpWith hj
  · exact h

/-- A terminal step records an outcome that DIAG fits and rests. -/
theorem finish (hk : s.fkind ≠ .none) {o : TxnOutcome} (ho : o ≠ .processing) (hfit : diagFits 0 o s.diag = true) :
    (s.finish o).ControlInv where
  step_legal := by simp [legalSteps]
  processing_iff := ⟨fun e => absurd rfl e, fun e => absurd e ho⟩
  frame_built := fun e => absurd e hk
  diag_fits := hfit
  dlexp_armed := fun e => Bool.noConfusion e
  polls_armed := fun e => absurd e (by simp)
  rest_disarmed := fun _ => rfl
  drains_ready := fun e => absurd e (by simp)
  diag_not_empty := h.diag_not_empty

/-- BUILDR and BUILDW start a new record at rest. -/
theorem loadFrame (hs : s.stepIdx = 0) (bytes : Vector Byte 14) (length : BitVec 4) {kind : FKind} (hk : kind ≠ .none)
    (crc : Half) : (s.loadFrame bytes length kind crc).ControlInv :=
  { h with
    processing_iff := ⟨fun e => absurd hs e, fun e => TxnOutcome.noConfusion e⟩
    frame_built := fun e => absurd e hk
    diag_fits := by simp [hs, diagFits]
    diag_not_empty := fun e => Diag.noConfusion e }

end State.ControlInv

/-- A drain step finds a byte, so EMPTY is not reached (60_exceptions.md R243). -/
theorem State.Inv.drainStore_rxlen_ne_zero {s : State} (h : s.Inv) (hs : s.stepIdx = 6) : s.drainStore.rxlen ≠ 0 := by
  have hbytes : s.chrx ≠ [] := h.dr_bytes (h.drains_ready (.inr (.inl hs)))
  have hcap : 7 ≤ s.rxcap.toNat := by simpa [Config.rxcapLegal] using h.rxcap_legal
  exact Machine.drainStore_rxlen_ne_zero hbytes (by omega)

/-- Every step of a transaction keeps the control half. -/
theorem State.Inv.control_advStep {s t : State} (h : s.Inv) (hk : s.fkind ≠ .none) (hstep : AdvStep s t) :
    t.ControlInv := by
  have hc : s.ControlInv := h.control
  have hrun : ∀ k ∈ forwardSteps, s.stepIdx = k → s.Running := fun k hf hs => hc.running hk (hs ▸ hf)
  have hfit : ∀ k, s.stepIdx = k → diagFits k s.outcome s.diag = true := fun k hs => hs ▸ h.diag_fits
  cases hstep with
  | start => exact (hc.stepStart hk).accept
  | sendOpcode hs => exact (((hrun 1 (by decide) hs).send _).arm_goto_poll (by decide)).accept
  | pollOpcode hs => exact (hc.poll hk (by rw [hs]; decide) (by decide) (by decide)).accept
  | discard hs => exact ((hrun 3 (by decide) hs).drainDiscard.goto_plain (by decide)).accept
  | sendBody hs => exact (((hrun 4 (by decide) hs).send _).arm_goto_poll (by decide)).accept
  | pollBody hs => exact (hc.poll hk (by rw [hs]; decide) (by decide) (by decide)).accept
  | checkAck hs =>
    have hdrained : s.drainStore.Running := (hrun 6 (by decide) hs).drainStore
    obtain ⟨-, -, e⟩ | ⟨hempty, -⟩ | ⟨-, -, e⟩ := stepCheckAck_cases s
    · rw [e]
      exact (hdrained.goto_plain (by decide)).accept
    · exact absurd hempty (h.drainStore_rxlen_ne_zero hs)
    · rw [e]
      exact (hdrained.jumpWith (by decide)).accept
  | sendAck hs => exact (((hrun 7 (by decide) hs).send _).arm_goto_poll (by decide)).accept
  | pollData hs => exact (hc.poll hk (by rw [hs]; decide) (by decide) (by decide)).accept
  | takeRead hs =>
    have hdrained : s.drainStore.Running := (hrun 9 (by decide) hs).drainStore
    obtain ⟨-, e⟩ | ⟨-, e⟩ := stepTakeRead_cases s <;> rw [e]
    · exact ((hdrained.withResult _).goto_plain (by decide)).accept
    · exact (hdrained.jumpWith (by decide)).accept
  | takeWrite hs => exact ((hrun 9 (by decide) hs).drainStore.goto_plain (by decide)).accept
  | finalAck hs => exact (((hrun 10 (by decide) hs).send _).goto_plain (by decide)).accept
  | success hs => exact (hc.finish hk (o := .success) (by decide) (hfit 20 hs)).accept
  | failed hs => exact (hc.finish hk (o := .failed) (by decide) (hfit 30 hs)).accept
  | timedOut hs => exact (hc.finish hk (o := .timedOut) (by decide) (hfit 40 hs)).accept

/-! ### Every move keeps the invariant -/

namespace State.Inv
variable {s : State} (h : s.Inv)
include h

theorem raiseCmdError (code : CmdStatus) : (s.raiseCmdError code).Inv :=
  .of_halves (h.data.raiseCmdError code) (h.control.raiseCmdError code)

theorem accept : s.accept.Inv := .of_halves h.data.accept h.control.accept

theorem loadFrame (hs : s.stepIdx = 0) (bytes : Vector Byte 14) {kind : FKind} (hk : kind ≠ .none) (crc : Half) :
    (s.loadFrame bytes kind.length kind crc).Inv :=
  .of_halves (h.data.loadFrame bytes kind crc) (h.control.loadFrame hs bytes kind.length hk crc)

theorem advStep (hk : s.fkind ≠ .none) {t : State} (hstep : AdvStep s t) : t.Inv :=
  .of_halves (h.data.advStep hstep) (h.control_advStep hk hstep)

theorem commandMove {c : CommandWord} {t : State} (hmove : CommandMove c s t) : t.Inv := by
  cases hmove with
  | illegal => exact h.raiseCmdError .illegal
  | range => exact h.raiseCmdError .range
  | busy => exact h.raiseCmdError .busy
  | noframe => exact h.raiseCmdError .noframe
  | wrbuf => exact State.Inv.accept { h with }
  | crc16 => exact State.Inv.accept { h with }
  | buildr _ _ hs => exact (h.loadFrame hs _ (kind := .read) (by decide) _).accept
  | buildw _ _ hs => exact (h.loadFrame hs _ (kind := .write) (by decide) _).accept
  | adv _ _ _ hk hstep => exact h.advStep hk hstep
  | dec => exact State.Inv.accept { h with decout_legal := decodeStatus_legal _ }

theorem arrive (first : Byte) (rest : List Byte) : (s.arrive first rest).Inv :=
  { h with
    dr_bytes := by simp
    drains_ready := fun _ => rfl }

theorem expire : s.expire.Inv := by
  obtain ⟨harmed, -, e⟩ | ⟨-, e⟩ := expire_cases s <;> rw [e]
  · exact { h with dlexp_armed := fun _ => harmed }
  · exact h

end State.Inv

/-- 70_reset_and_hazards.md R250: a reset reaches the invariant from any state with a legal RXCAP. -/
theorem blockReset_inv {s : State} (h : Config.rxcapLegal s.rxcap = true) : s.blockReset.Inv where
  rxcap_legal := h
  step_legal := by simp [legalSteps]
  processing_iff := by simp
  length_fits := rfl
  frame_built := fun _ => ⟨rfl, rfl⟩
  diag_fits := rfl
  rxb_length := List.length_replicate
  rxlen_le := Nat.zero_le _
  rxb_tail := fun i _ => byteAt_replicate_zero _ i
  rxovf_full := fun e => Bool.noConfusion e
  dlexp_armed := fun e => Bool.noConfusion e
  polls_armed := by simp
  rest_disarmed := fun _ => rfl
  result_bit7 := by simp
  decout_legal := by simp [legalDecout]
  cerrs_sticky := by simp
  dr_bytes := fun e => Bool.noConfusion e
  drains_ready := by simp
  diag_not_empty := fun e => Diag.noConfusion e

/-- Every move of every agent keeps the invariant. -/
theorem react_inv {move : Input} {s t : State} (h : s.Inv) (hr : react move s = .next t) : t.Inv := by
  cases move with
  | command c => exact h.commandMove (react_command_cases hr)
  | arrival first rest => cases hr; exact h.arrive first rest
  | expiry => cases hr; exact h.expire
  | reset => cases hr; exact blockReset_inv h.rxcap_legal

/-- Settles O52: a step performs one move, and every move keeps each half of the invariant. -/
theorem everyStepKeepsTheInvariant : Obligations.EveryStepKeepsTheInvariant := by
  intro s t h hstep
  cases hi : s.inputs with
  | nil =>
    rw [step, hi] at hstep
    cases hstep
    exact h
  | cons move later =>
    rw [step_cons hi] at hstep
    exact react_inv (s := { s with inputs := later }) { h with } hstep

/-- Settles O51: the machine's reset state is itself what a reset move leaves. -/
theorem resetSatisfiesTheInvariant : Obligations.ResetSatisfiesTheInvariant := by
  refine ⟨blockReset_inv (s := State.reset) rfl, fun s t hcap hr => ?_⟩
  cases hr
  exact blockReset_inv (by simpa [Config.rxcapLegal] using hcap)

end Sys2Proof.Machine
end

section
/-! Who writes what (10_state.md R28, R29, R32, R35, R36, R43): a move is an event, an ADV that performs a step, or a
command that performs none and so leaves the transaction alone; each element's writers are read off these. -/

namespace Sys2Proof.Machine

/-! ### What a move is -/

/-- What a command that performs no step does to the transaction: nothing (R43), but for the new record that a builder
starts at rest (41_frame_builder.md R131). -/
structure KeepsTransaction (s t : State) : Prop where
  stepIdx : t.stepIdx = s.stepIdx
  outcome : t.outcome = s.outcome ∨ (s.stepIdx = 0 ∧ t.outcome = .idle)
  result : t.result = s.result
  dr : t.dr = s.dr
  dlarm : t.dlarm = s.dlarm
  dlexp : t.dlexp = s.dlexp
  rxovf : t.rxovf = s.rxovf

/-- Everything a move of an agent can be: an event, an ADV that performs the step STEP numbers, or another command. -/
inductive MoveEffect (s : State) : Input → State → Prop where
  | arrival (first : Byte) (rest : List Byte) : MoveEffect s (.arrival first rest) (s.arrive first rest)
  | expiry : MoveEffect s .expiry s.expire
  | reset : MoveEffect s .reset s.blockReset
  | adv {t : State} : s.fkind ≠ .none → AdvStep s t → MoveEffect s (.command advWord) t
  | quiet {c : CommandWord} {t : State} : (∀ k, ¬PerformsStep (.command c) s k) → KeepsTransaction s t →
      MoveEffect s (.command c) t

/-- A word with another opcode than ADV's performs no step. -/
theorem not_performsStep_of_op {c : CommandWord} (ho : (fieldsOf c).op ≠ 5#4) (s : State) (k : BitVec 6) :
    ¬PerformsStep (.command c) s k := by
  rintro ⟨hc, -, -⟩
  cases hc
  exact ho fieldsOf_advWord_op

/-- A word that encodes no command performs no step. -/
theorem not_performsStep_of_illegal {c : CommandWord} (hw : (fieldsOf c).wellFormed = false) (s : State)
    (k : BitVec 6) : ¬PerformsStep (.command c) s k := by
  rintro ⟨hc, -, -⟩
  cases hc
  exact absurd hw (by decide)

theorem raiseCmdError_keepsTransaction (code : CmdStatus) (s : State) : KeepsTransaction s (s.raiseCmdError code) :=
  ⟨rfl, .inl rfl, rfl, rfl, rfl, rfl, rfl⟩

theorem react_effect {move : Input} {s t : State} (h : react move s = .next t) : MoveEffect s move t := by
  cases move with
  | arrival first rest => cases h; exact .arrival first rest
  | expiry => cases h; exact .expiry
  | reset => cases h; exact .reset
  | command c =>
    have hop {k : BitVec 4} (ho : (fieldsOf c).op = k) (hk : k ≠ 5#4) : ∀ k, ¬PerformsStep (.command c) s k :=
      not_performsStep_of_op (ho ▸ hk) s
    cases react_command_cases h with
    | illegal hw => exact .quiet (not_performsStep_of_illegal hw s) (raiseCmdError_keepsTransaction ..)
    | range _ hr =>
      obtain ⟨ho, -⟩ | ⟨ho, -⟩ := hr <;> exact .quiet (hop ho (by decide)) (raiseCmdError_keepsTransaction ..)
    | busy _ hr _ =>
      obtain ⟨ho, -⟩ | ho | ho := hr <;> exact .quiet (hop ho (by decide)) (raiseCmdError_keepsTransaction ..)
    | noframe _ _ _ hk => exact .quiet (fun _ hp => hp.2.1 hk) (raiseCmdError_keepsTransaction ..)
    | wrbuf _ ho => exact .quiet (hop ho (by decide)) ⟨rfl, .inl rfl, rfl, rfl, rfl, rfl, rfl⟩
    | crc16 _ ho => exact .quiet (hop ho (by decide)) ⟨rfl, .inl rfl, rfl, rfl, rfl, rfl, rfl⟩
    | buildr _ ho hs => exact .quiet (hop ho (by decide)) ⟨rfl, .inr ⟨hs, rfl⟩, rfl, rfl, rfl, rfl, rfl⟩
    | buildw _ ho hs => exact .quiet (hop ho (by decide)) ⟨rfl, .inr ⟨hs, rfl⟩, rfl, rfl, rfl, rfl, rfl⟩
    | adv _ _ hc hk hstep => subst hc; exact .adv hk hstep
    | dec _ ho => exact .quiet (hop ho (by decide)) ⟨rfl, .inl rfl, rfl, rfl, rfl, rfl, rfl⟩

/-- An ADV with a frame built performs the step STEP numbers. -/
theorem performsStep_adv_iff {s : State} (hk : s.fkind ≠ .none) (k : BitVec 6) :
    PerformsStep (.command advWord) s k ↔ s.stepIdx = k :=
  ⟨fun ⟨_, _, hs⟩ => hs, fun hs => ⟨rfl, hk, hs⟩⟩

@[simp] theorem not_performsStep_arrival (first : Byte) (rest : List Byte) (s : State) (k : BitVec 6) :
    ¬PerformsStep (.arrival first rest) s k := fun h => Input.noConfusion h.1

@[simp] theorem not_performsStep_expiry (s : State) (k : BitVec 6) : ¬PerformsStep .expiry s k :=
  fun h => Input.noConfusion h.1

@[simp] theorem not_performsStep_reset (s : State) (k : BitVec 6) : ¬PerformsStep .reset s k :=
  fun h => Input.noConfusion h.1

/-! ### What each step of a transaction writes -/

section
variable (s : State)

@[simp] theorem State.stepStart_eq : s.stepStart =
    { s with outcome := .processing, diag := .none, result := 0 }.goto 1 := rfl
@[simp] theorem State.stepSendOpcode_eq : s.stepSendOpcode = ((s.send [s.fbAt 0]).arm).goto 2 := rfl
@[simp] theorem State.stepPollOpcode_eq : s.stepPollOpcode = s.poll 3 .timeoutP1 := rfl
@[simp] theorem State.stepDiscard_eq : s.stepDiscard = s.drainDiscard.goto 4 := rfl
@[simp] theorem State.stepSendBody_eq (n : Nat) :
    s.stepSendBody n = ((s.send (s.fbSlice 1 (n - 3))).arm).goto 5 := rfl
@[simp] theorem State.stepPollBody_eq : s.stepPollBody = s.poll 6 .timeoutP2 := rfl
@[simp] theorem State.stepSendAck_eq (n : Nat) : s.stepSendAck n = ((s.send [s.fbAt (n - 2)]).arm).goto 8 := rfl
@[simp] theorem State.stepPollData_eq : s.stepPollData = s.poll 9 .timeoutP3 := rfl
@[simp] theorem State.stepTakeWrite_eq : s.stepTakeWrite = s.drainStore.goto 10 := rfl
@[simp] theorem State.stepFinalAck_eq (n : Nat) : s.stepFinalAck n = (s.send [s.fbAt (n - 2)]).goto 20 := rfl

/-- Step 9 of a read writes RESULT when the drain took the seven bytes the decode needs (42_transaction.md R163). -/
theorem stepTakeRead_result (hcap : 7 ≤ s.rxcap.toNat) : s.stepTakeRead.result =
    if h : 7 ≤ s.chrx.length then resultWord s.chrx[5] s.chrx[6] else s.result := by
  have hlen : s.drainStore.rxlen.toNat = min s.chrx.length s.rxcap.toNat := drainStore_rxlen_toNat s
  have hbyte (i : Nat) (hi : i < 7) (hc : i < s.chrx.length) : byteAt s.drainStore.rxb i = s.chrx[i] := by
    rw [drainStore_byteAt, if_pos (by omega), byteAt_of_lt hc]
  obtain ⟨hr, e⟩ | ⟨hr, e⟩ := stepTakeRead_cases s <;> rw [e]
  · have h7 : 7 ≤ s.chrx.length := by omega
    rw [dif_pos h7, hbyte 5 (by omega) (by omega), hbyte 6 (by omega) (by omega)]
    rfl
  · rw [dif_neg (by omega)]
    rfl

end

namespace AdvStep
variable {s t : State} (h : AdvStep s t)
include h

/-- R35. -/
theorem dr_eq : t.dr = if s.stepIdx = 3 ∨ s.stepIdx = 6 ∨ s.stepIdx = 9 then false else s.dr := by
  cases h <;> simp [*]

/-- R36: the sending steps that wait arm, the terminal steps disarm. -/
theorem dlarm_eq : t.dlarm =
    if s.stepIdx = 1 ∨ s.stepIdx = 4 ∨ s.stepIdx = 7 then true
    else if s.stepIdx = 20 ∨ s.stepIdx = 30 ∨ s.stepIdx = 40 then false else s.dlarm := by
  cases h <;> simp [*]

/-- R36: arming and disarming both clear DLEXP, and no step sets it. -/
theorem dlexp_eq : t.dlexp =
    if s.stepIdx = 1 ∨ s.stepIdx = 4 ∨ s.stepIdx = 7 ∨ s.stepIdx = 20 ∨ s.stepIdx = 30 ∨ s.stepIdx = 40 then false
    else s.dlexp := by
  cases h <;> simp [*]

/-- R28. -/
theorem rxovf_eq : t.rxovf =
    if s.stepIdx = 6 ∨ s.stepIdx = 9 then decide (s.rxcap.toNat < s.chrx.length)
    else if s.stepIdx = 3 then false else s.rxovf := by
  cases h <;> simp [*]

/-- R29. -/
theorem result_eq (hcap : 7 ≤ s.rxcap.toNat) : t.result =
    if s.stepIdx = 0 then 0
    else if hread : s.stepIdx = 9 ∧ s.fkind = .read ∧ 7 ≤ s.chrx.length then
      resultWord (s.chrx[5]'(by omega)) (s.chrx[6]'(by omega))
    else s.result := by
  cases h with
  | takeRead hs hk => simp [hs, hk, stepTakeRead_result s hcap]
  | _ => simp [*]

end AdvStep

/-- A poll step never ends at rest. -/
theorem poll_stepIdx_ne_zero {s : State} {next : BitVec 6} (hs : s.stepIdx ≠ 0) (hn : next ≠ 0) (code : Diag) :
    (s.poll next code).stepIdx ≠ 0 := by
  obtain ⟨-, e⟩ | ⟨-, -, e⟩ | ⟨-, -, e⟩ := poll_cases next code s <;> rw [e]
  · exact hn
  · simp
  · exact hs

theorem stepCheckAck_stepIdx_ne_zero (s : State) : s.stepCheckAck.stepIdx ≠ 0 := by
  obtain ⟨-, -, e⟩ | ⟨-, e⟩ | ⟨-, -, e⟩ := stepCheckAck_cases s <;> simp [e]

theorem stepTakeRead_stepIdx_ne_zero (s : State) : s.stepTakeRead.stepIdx ≠ 0 := by
  obtain ⟨-, e⟩ | ⟨-, e⟩ := stepTakeRead_cases s <;> simp [e]

/-- R32: a step starts the transaction, goes on with it and keeps OUTCOME, or ends it at rest with a terminal
outcome. -/
theorem AdvStep.progress {s t : State} (h : AdvStep s t) :
    (t.stepIdx ≠ 0 ∧ t.outcome = if s.stepIdx = 0 then .processing else s.outcome) ∨
    (t.stepIdx = 0 ∧ t.outcome.terminal = true) := by
  cases h with
  | pollOpcode hs => exact .inl ⟨poll_stepIdx_ne_zero (by simp [hs]) (by decide) _, by simp [hs]⟩
  | pollBody hs => exact .inl ⟨poll_stepIdx_ne_zero (by simp [hs]) (by decide) _, by simp [hs]⟩
  | pollData hs => exact .inl ⟨poll_stepIdx_ne_zero (by simp [hs]) (by decide) _, by simp [hs]⟩
  | checkAck hs => exact .inl ⟨stepCheckAck_stepIdx_ne_zero s, by simp [hs]⟩
  | takeRead hs => exact .inl ⟨stepTakeRead_stepIdx_ne_zero s, by simp [hs]⟩
  | success | failed | timedOut => exact .inr ⟨rfl, rfl⟩
  | _ => left; simp [*]

/-! ### The writers of each element -/

/-- Settles O30: arrivals set DR, the drain steps and reset clear it. -/
theorem dataReadyWriters : Obligations.DataReadyWriters := by
  intro move s t h
  cases react_effect h with
  | arrival first rest => simp
  | expiry => simp
  | reset => simp
  | adv hk hstep =>
    simp only [performsStep_adv_iff hk, hstep.dr_eq]
    refine ⟨by simp, fun hs => if_pos (by simpa using hs), fun _ h3 h6 h9 _ => if_neg (by tauto)⟩
  | quiet hn hkeep => simp [hn, hkeep.dr]

/-- Settles O31: of the moves that write the deadline's bits, only the expiry event sets DLEXP. -/
theorem deadlineWriters : Obligations.DeadlineWriters := by
  intro move s t h
  cases react_effect h with
  | arrival first rest => simp
  | expiry =>
    obtain ⟨harm, hexp, e⟩ | ⟨hn, e⟩ := expire_cases s
    · simp [e, harm]
    · have hkept : s.dlarm = true → s.dlexp = true := by simpa using hn
      simp +contextual [e, hkept]
  | reset => simp
  | adv hk hstep =>
    simp only [performsStep_adv_iff hk, hstep.dlarm_eq, hstep.dlexp_eq]
    refine ⟨fun hs => ⟨if_pos hs, if_pos (by tauto)⟩, ?_, ?_, fun he => by simp [he], by simp⟩
    · rintro (hs | hs | hs | hs)
      · simp [hs]
      · simp [hs]
      · simp [hs]
      · exact Input.noConfusion hs
    · intro h1 h4 h7 h20 h30 h40 _
      exact ⟨by rw [if_neg (by tauto), if_neg (by tauto)], fun _ => if_neg (by tauto)⟩
  | quiet hn hkeep => simp_all [hkeep.dlarm, hkeep.dlexp]

/-- Settles O32: drain-and-store writes RXOVF, drain-and-discard and reset clear it. -/
theorem overflowFlagWriters : Obligations.OverflowFlagWriters := by
  intro move s t h
  cases react_effect h with
  | arrival first rest => simp
  | expiry => simp
  | reset => simp
  | adv hk hstep =>
    simp only [performsStep_adv_iff hk, hstep.rxovf_eq]
    refine ⟨fun hs => by rw [if_pos hs, decide_eq_true_iff], ?_, ?_⟩
    · rintro (hs | hs)
      · simp [hs]
      · exact Input.noConfusion hs
    · intro h6 h9 h3 _
      rw [if_neg (by tauto), if_neg h3]
  | quiet hn hkeep => simp [hn, hkeep.rxovf]

/-- Settles O33: RESULT is written at step 0, by the decode of step 9 and by reset. -/
theorem resultWriters : Obligations.ResultWriters := by
  intro move s t hcap h
  cases react_effect h with
  | arrival first rest => simp
  | expiry => simp
  | reset => simp
  | adv hk hstep =>
    simp only [performsStep_adv_iff hk, hstep.result_eq hcap]
    refine ⟨?_, fun hs hk h7 => by simp [hs, hk, h7], fun h0 _ hread => by rw [if_neg h0, dif_neg hread]⟩
    rintro (hs | hs)
    · exact if_pos hs
    · exact Input.noConfusion hs
  | quiet hn hkeep => simp [hn, hkeep.result]

/-- Settles O54: no move can start or end a transaction without writing OUTCOME. -/
theorem processingExactlyWhileInProgress : Obligations.ProcessingExactlyWhileInProgress := by
  refine ⟨by decide, fun move s t hs h => ?_⟩
  cases react_effect h with
  | arrival first rest => exact hs
  | expiry => simpa using hs
  | reset => simp
  | adv hk hstep =>
    obtain ⟨hne, ho⟩ | ⟨hrest, ho⟩ := hstep.progress
    · have hprocessing : t.outcome = .processing := by
        rw [ho]
        split_ifs with h0
        · rfl
        · exact hs.mp h0
      exact ⟨fun _ => hprocessing, fun _ => hne⟩
    · exact ⟨fun hne => absurd hrest hne, fun hp => by simp [hp, TxnOutcome.terminal] at ho⟩
  | quiet hn hkeep =>
    rw [hkeep.stepIdx]
    obtain ho | ⟨hrest, ho⟩ := hkeep.outcome
    · rw [ho]; exact hs
    · simp [hrest, ho]

/-! ### Every move completes -/

/-- R178: with a frame built, a legal STEP and the frame's length, an ADV performs its step. -/
theorem performStep_completes {s : State} (h : s.Inv) (hk : s.fkind ≠ .none) : ∃ t, s.performStep = .next t := by
  have hlen : s.flen = 10 ∨ s.flen = 14 := by
    rw [h.length_fits]
    cases hf : s.fkind with
    | none => exact absurd hf hk
    | read => exact .inl rfl
    | write => exact .inr rfl
  have hsend (act : Nat → State → State) : s.withFrameLength act = .next (act s.flen.toNat s).accept := by
    obtain ⟨-, e⟩ | ⟨h10, h14, -⟩ := withFrameLength_cases act s
    · exact e
    · exact absurd hlen (by tauto)
  have hlegal := h.step_legal
  simp only [legalSteps, List.mem_cons, List.not_mem_nil, or_false] at hlegal
  obtain hs | hs | hs | hs | hs | hs | hs | hs | hs | hs | hs | hs | hs | hs := hlegal
  · exact ⟨_, performStep_start hs⟩
  · exact ⟨_, performStep_sendOpcode hs⟩
  · exact ⟨_, performStep_pollOpcode hs⟩
  · exact ⟨_, performStep_discard hs⟩
  · exact ⟨_, (performStep_sendBody hs).trans (hsend _)⟩
  · exact ⟨_, performStep_pollBody hs⟩
  · exact ⟨_, performStep_checkAck hs⟩
  · exact ⟨_, (performStep_sendAck hs).trans (hsend _)⟩
  · exact ⟨_, performStep_pollData hs⟩
  · exact ⟨_, performStep_take hs⟩
  · exact ⟨_, (performStep_finalAck hs).trans (hsend _)⟩
  · exact ⟨_, performStep_success hs⟩
  · exact ⟨_, performStep_failed hs⟩
  · exact ⟨_, performStep_timedOut hs⟩

theorem unlessBusy_completes (s accepted : State) : ∃ t, s.unlessBusy accepted = .next t := by
  obtain ⟨-, e⟩ | ⟨-, e⟩ := unlessBusy_cases s accepted <;> exact ⟨_, e⟩

theorem exec_completes {s : State} (h : s.Inv) (i : Instr) : ∃ t, exec i s = .next t := by
  cases i with
  | wrbuf pos val =>
    obtain ⟨-, e⟩ | ⟨-, -, e⟩ | ⟨-, -, e⟩ := execWrbuf_cases pos val s <;> exact ⟨_, e⟩
  | crc16 n => obtain ⟨-, e⟩ | ⟨-, e⟩ := execCrc16_cases n s <;> exact ⟨_, e⟩
  | buildr index subindex => exact unlessBusy_completes _ _
  | buildw index data => exact unlessBusy_completes _ _
  | adv =>
    obtain ⟨-, e⟩ | ⟨hk, e⟩ := execAdv_eq s
    · exact ⟨_, e⟩
    · obtain ⟨t, ht⟩ := performStep_completes h hk
      exact ⟨t, e.trans ht⟩
  | dec status => exact ⟨_, rfl⟩
  | readFrame => exact ⟨_, rfl⟩
  | writeFrame => exact ⟨_, rfl⟩

theorem react_completes {s : State} (h : s.Inv) (move : Input) : ∃ t, react move s = .next t := by
  cases move with
  | command c =>
    cases hd : decode (.command c) with
    | ok i =>
      obtain ⟨t, ht⟩ := exec_completes h i
      exact ⟨t, (react_command hd s).trans ht⟩
    | error reason => exact ⟨_, react_reserved hd s⟩
  | arrival first rest => exact ⟨_, rfl⟩
  | expiry => exact ⟨_, rfl⟩
  | reset => exact ⟨_, rfl⟩

/-- Settles O53: the invariant keeps ADV away from its two faults. -/
theorem everyMoveCompletes : Obligations.EveryMoveCompletes := by
  refine fun s h => ⟨react_completes h, ?_⟩
  cases hi : s.inputs with
  | nil => exact ⟨s, by rw [step, hi]⟩
  | cons move later =>
    obtain ⟨t, ht⟩ := react_completes (s := { s with inputs := later }) { h with } move
    exact ⟨t, (step_cons hi).trans ht⟩

/-! ### The row of each command -/

/-- R43, row ADV: a step of the transaction writes the elements of its row and no other. -/
theorem AdvStep.row {s t : State} (h : AdvStep s t) : t = { s with
    cerr := t.cerr, cerrs := t.cerrs, stepIdx := t.stepIdx, outcome := t.outcome, diag := t.diag, result := t.result
    dr := t.dr, dlarm := t.dlarm, dlexp := t.dlexp, rxb := t.rxb, rxlen := t.rxlen, rxovf := t.rxovf
    txlog := t.txlog, chrx := t.chrx } := by
  rw [← h.rxcap_eq, ← h.fb_eq, ← h.flen_eq, ← h.fkind_eq, ← h.crcr_eq, ← h.decin_eq, ← h.decout_eq, ← h.inputs_eq]

/-- A word has one opcode, so the rows of the other opcodes say nothing of it. -/
theorem other_op {op k k' : BitVec 4} {P : Prop} (ho : op = k) (hne : k ≠ k' := by decide) : op = k' → P :=
  fun h => absurd (ho.symm.trans h) hne

/-- Settles O18: a refused command writes the status alone, and an accepted one is held to the row of its opcode. -/
theorem commandsWriteOnlyTheirColumns : Obligations.CommandsWriteOnlyTheirColumns := by
  intro c s t h
  cases react_command_cases h with
  | illegal | range | busy | noframe =>
    exact ⟨⟨rfl, rfl⟩, fun _ => rfl, fun _ => rfl, fun _ => rfl, fun _ => rfl, fun _ => rfl, fun _ => rfl⟩
  | wrbuf _ ho =>
    exact ⟨⟨rfl, rfl⟩, fun e => absurd rfl e,
      fun _ => rfl, other_op ho, Or.rec (other_op ho) (other_op ho), other_op ho, other_op ho⟩
  | crc16 _ ho =>
    exact ⟨⟨rfl, rfl⟩, fun e => absurd rfl e,
      other_op ho, fun _ => rfl, Or.rec (other_op ho) (other_op ho), other_op ho, other_op ho⟩
  | buildr _ ho | buildw _ ho =>
    exact ⟨⟨rfl, rfl⟩, fun e => absurd rfl e,
      other_op ho, other_op ho, fun _ => rfl, other_op ho, other_op ho⟩
  | adv _ ho _ _ hstep =>
    exact ⟨⟨hstep.rxcap_eq, hstep.inputs_eq⟩, fun e => absurd hstep.cerr_eq e,
      other_op ho, other_op ho, Or.rec (other_op ho) (other_op ho), fun _ => hstep.row, other_op ho⟩
  | dec _ ho =>
    exact ⟨⟨rfl, rfl⟩, fun e => absurd rfl e,
      other_op ho, other_op ho, Or.rec (other_op ho) (other_op ho), other_op ho, fun _ => rfl⟩

end Sys2Proof.Machine
end

section
/-! The read port (10_state.md R44 to R54): which register a number selects, the fields of each register, and what a
reset leaves there. -/

namespace Sys2Proof.Machine

/-! ### The fields of a packed register -/

theorem flagBit_getLsbD_zero (b : Bool) : (flagBit b).getLsbD 0 = b := by cases b <;> rfl

section
variable (s : State)

/-- R46, the coded fields of STATUS and its reserved bits. -/
theorem statusReg_fields :
    s.statusReg.extractLsb' 0 3 = s.outcome.code ∧ s.statusReg.extractLsb' 3 1 = 0 ∧
    s.statusReg.extractLsb' 4 6 = s.stepIdx ∧ s.statusReg.extractLsb' 10 2 = s.fkind.code ∧
    s.statusReg.extractLsb' 16 4 = s.diag.code ∧ s.statusReg.extractLsb' 20 3 = s.cerr.code ∧
    s.statusReg.extractLsb' 24 8 = 0 := by
  refine ⟨?_, ?_, ?_, ?_, ?_, ?_, ?_⟩ <;>
    simp (disch := decide) only [State.statusReg, BitVec.extractLsb'_append_eq_of_le,
      BitVec.extractLsb'_append_eq_of_add_le, BitVec.extractLsb'_eq_self, BitVec.extractLsb'_zero,
      BitVec.ofNat_eq_ofNat, Nat.reduceSub]

/-- R46, the flags of STATUS. -/
theorem statusReg_flags :
    s.statusReg.getLsbD 12 = s.dr ∧ s.statusReg.getLsbD 13 = s.dlarm ∧ s.statusReg.getLsbD 14 = s.dlexp ∧
    s.statusReg.getLsbD 15 = s.rxovf ∧ s.statusReg.getLsbD 23 = s.cerrs := by
  refine ⟨?_, ?_, ?_, ?_, ?_⟩ <;>
    simp only [State.statusReg, BitVec.getLsbD_append, Nat.reduceLT, Nat.reduceSub, reduceIte, flagBit_getLsbD_zero]

/-- R49. -/
theorem decReg_fields :
    s.decReg.extractLsb' 0 4 = s.decout ∧ s.decReg.extractLsb' 4 12 = 0 ∧ s.decReg.extractLsb' 16 16 = s.decin := by
  refine ⟨?_, ?_, ?_⟩ <;>
    simp (disch := decide) only [State.decReg, BitVec.extractLsb'_append_eq_of_le,
      BitVec.extractLsb'_append_eq_of_add_le, BitVec.extractLsb'_eq_self, BitVec.extractLsb'_zero,
      BitVec.ofNat_eq_ofNat, Nat.reduceSub]

/-- R50. -/
theorem lenReg_fields :
    s.lenReg.extractLsb' 0 4 = s.flen ∧ s.lenReg.extractLsb' 4 4 = 0 ∧ s.lenReg.extractLsb' 8 8 = s.rxlen ∧
    s.lenReg.extractLsb' 16 8 = s.rxcap ∧ s.lenReg.extractLsb' 24 8 = 0 := by
  refine ⟨?_, ?_, ?_, ?_, ?_⟩ <;>
    simp (disch := decide) only [State.lenReg, BitVec.extractLsb'_append_eq_of_le,
      BitVec.extractLsb'_append_eq_of_add_le, BitVec.extractLsb'_eq_self, BitVec.extractLsb'_zero,
      BitVec.ofNat_eq_ofNat, Nat.reduceSub]

end

/-- R47, R48: a half-word in the low half of its register. -/
theorem zero_append_eq_zeroExtend (v : Half) : (0#16 ++ v : Word) = v.zeroExtend 32 := by
  apply BitVec.eq_of_getLsbD_eq
  intro i hi
  simp only [BitVec.getLsbD_append, BitVec.getLsbD_zero, BitVec.truncate_eq_setWidth, BitVec.getLsbD_setWidth]
  grind

/-- R11: FB has 14 bytes, and a byte past them reads 0. -/
theorem fbAt_eq (s : State) (i : Nat) : s.fbAt i = if h : i < 14 then s.fb[i] else 0 := by
  by_cases h : i < 14
  · rw [State.fbAt, byteAt_of_lt (by simpa using h), dif_pos h, Vector.getElem_toList]
  · rw [State.fbAt, byteAt_of_length_le (by simpa using h), dif_neg h]

/-- R64: byte `j` of a little-endian register is its `j`th byte. -/
theorem littleEndian32_extractLsb' (b : Nat → Byte) {j : Nat} (hj : j < 4) (k : Nat) :
    (littleEndian32 (b (4 * k)) (b (4 * k + 1)) (b (4 * k + 2)) (b (4 * k + 3))).extractLsb' (8 * j) 8 =
      b (4 * k + j) := by
  obtain rfl | rfl | rfl | rfl : j = 0 ∨ j = 1 ∨ j = 2 ∨ j = 3 := by omega
  all_goals
    simp (disch := decide) only [littleEndian32, BitVec.extractLsb'_append_eq_of_le,
      BitVec.extractLsb'_append_eq_of_add_le, BitVec.extractLsb'_eq_self, Nat.reduceMul, Nat.reduceSub,
      Nat.add_zero]

/-! ### Which register a number selects -/

section
variable (s : State)

theorem readPort_status : s.readPort 0x00 = s.statusReg := rfl
theorem readPort_crc : s.readPort 0x01 = s.crcReg := rfl
theorem readPort_result : s.readPort 0x02 = s.resultReg := rfl
theorem readPort_dec : s.readPort 0x03 = s.decReg := rfl
theorem readPort_len : s.readPort 0x04 = s.lenReg := rfl

/-- A number past LEN selects a buffer register or is reserved. -/
theorem readPort_of_lt {a : Byte} (h : 4 < a.toNat) : s.readPort a =
    if 0x08 ≤ a.toNat ∧ a.toNat ≤ 0x0B then s.fbReg (a.toNat - 0x08)
    else if 0x10 ≤ a.toNat ∧ a.toNat < 0x10 + s.rxRegCount then s.rxReg (a.toNat - 0x10)
    else 0 := by
  have hne (b : Byte) (hb : b.toNat ≤ 4) : a ≠ b := by rintro rfl; omega
  rw [State.readPort, if_neg (hne 0 (by decide)), if_neg (hne 1 (by decide)), if_neg (hne 2 (by decide)),
    if_neg (hne 3 (by decide)), if_neg (hne 4 (by decide))]

/-- R51. -/
theorem readPort_fb {k : Nat} (hk : k < 4) : s.readPort (BitVec.ofNat 8 (0x08 + k)) = s.fbReg k := by
  have ha : (BitVec.ofNat 8 (0x08 + k)).toNat = 0x08 + k := Nat.mod_eq_of_lt (by omega)
  rw [readPort_of_lt s (by omega), ha, if_pos (by omega), Nat.add_sub_cancel_left]

/-- R52. -/
theorem readPort_rx {k : Nat} (hk : k < s.rxRegCount) : s.readPort (BitVec.ofNat 8 (0x10 + k)) = s.rxReg k := by
  have hcap : s.rxRegCount ≤ 64 := by
    have := s.rxcap.isLt
    unfold State.rxRegCount
    omega
  have ha : (BitVec.ofNat 8 (0x10 + k)).toNat = 0x10 + k := Nat.mod_eq_of_lt (by omega)
  rw [readPort_of_lt s (by omega), ha, if_neg (by omega), if_pos (by omega), Nat.add_sub_cancel_left]

/-- R53. -/
theorem readPort_reserved {a : Byte} (h : (0x05 ≤ a.toNat ∧ a.toNat ≤ 0x07) ∨ (0x0C ≤ a.toNat ∧ a.toNat ≤ 0x0F) ∨
    0x10 + s.rxRegCount ≤ a.toNat) : s.readPort a = 0 := by
  rw [readPort_of_lt s (by omega), if_neg (by omega), if_neg (by omega)]

end

/-! ### After a reset -/

section
variable (s : State)

theorem blockReset_fbAt (k : Nat) : s.blockReset.fbAt k = 0 := by
  rw [State.fbAt, State.blockReset_fb, Vector.toList_replicate, byteAt_replicate_zero]

theorem blockReset_fbReg (k : Nat) : s.blockReset.fbReg k = 0 := by
  simp only [State.fbReg, blockReset_fbAt]
  rfl

theorem blockReset_rxByte (i : Nat) : s.blockReset.rxByte i = 0 := by
  rw [State.rxByte, State.blockReset_rxb, byteAt_replicate_zero, ite_self]

theorem blockReset_rxReg (k : Nat) : s.blockReset.rxReg k = 0 := by
  simp only [State.rxReg, blockReset_rxByte]
  rfl

theorem blockReset_statusReg : s.blockReset.statusReg = 0 := by
  simp only [State.statusReg, State.blockReset_cerrs, State.blockReset_cerr, State.blockReset_diag,
    State.blockReset_rxovf, State.blockReset_dlexp, State.blockReset_dlarm, State.blockReset_dr,
    State.blockReset_fkind, State.blockReset_stepIdx, State.blockReset_outcome]
  decide

theorem blockReset_crcReg : s.blockReset.crcReg = 0 := by
  rw [State.crcReg, State.blockReset_crcr]
  rfl

theorem blockReset_resultReg : s.blockReset.resultReg = 0 := by
  rw [State.resultReg, State.blockReset_result]
  rfl

theorem blockReset_decReg : s.blockReset.decReg = 0 := by
  rw [State.decReg, State.blockReset_decin, State.blockReset_decout]
  rfl

/-- R50: LEN shows RXCAP in bits [23:16] and no length. -/
theorem blockReset_lenReg : s.blockReset.lenReg = s.rxcap.zeroExtend 32 <<< 16 := by
  apply BitVec.eq_of_getLsbD_eq
  intro i hi
  simp only [State.lenReg, State.blockReset_rxcap, State.blockReset_rxlen, State.blockReset_flen,
    BitVec.getLsbD_append, BitVec.getLsbD_zero, BitVec.getLsbD_shiftLeft, BitVec.truncate_eq_setWidth,
    BitVec.getLsbD_setWidth]
  grind

/-- R250: the read port after a reset, register by register. -/
theorem blockReset_readPort (a : Byte) :
    s.blockReset.readPort a = if a = 0x04 then s.rxcap.zeroExtend 32 <<< 16 else 0 := by
  by_cases h : a = 0x04
  · rw [h, readPort_len, blockReset_lenReg, if_pos rfl]
  · simp only [State.readPort, if_neg h, blockReset_statusReg, blockReset_crcReg, blockReset_resultReg,
      blockReset_decReg, blockReset_fbReg, blockReset_rxReg, ite_self]

end

/-! ### The obligations -/

/-- Settles O42: each register is its fields side by side. -/
theorem statusAndResultRegisters : Obligations.StatusAndResultRegisters := by
  refine ⟨fun s => ?_, fun s => ?_, fun s => ?_⟩
  · simp only [readPort_status]
    obtain ⟨hout, h3, hstep, hkind, hdiag, hcerr, h24⟩ := statusReg_fields s
    obtain ⟨hdr, harm, hexp, hovf, hcerrs⟩ := statusReg_flags s
    exact ⟨hout, h3, hstep, hkind, hdr, harm, hexp, hovf, hdiag, hcerr, hcerrs, h24⟩
  · rw [readPort_crc, readPort_result, readPort_dec, readPort_len]
    exact ⟨zero_append_eq_zeroExtend s.crcr, zero_append_eq_zeroExtend s.result, decReg_fields s, lenReg_fields s⟩
  · rw [readPort_status, readPort_crc, readPort_result, readPort_dec, readPort_len]
    exact ⟨blockReset_statusReg s, blockReset_crcReg s, blockReset_resultReg s, blockReset_decReg s,
      blockReset_lenReg s⟩

/-- Settles O43: a buffer register is four bytes of its buffer, the first in the low bits. -/
theorem bufferRegistersLayout : Obligations.BufferRegistersLayout := by
  refine fun s j hj => ⟨fun k hk => ⟨?_, ?_⟩, fun k hk => ⟨?_, ?_⟩⟩
  · rw [readPort_fb s hk, State.fbReg, littleEndian32_extractLsb' s.fbAt hj, fbAt_eq]
  · rw [readPort_fb s.blockReset hk, blockReset_fbReg]
  · rw [readPort_rx s hk, State.rxReg, littleEndian32_extractLsb' s.rxByte hj]
    rfl
  · rw [readPort_rx s.blockReset hk, blockReset_rxReg]

/-- Settles O44: no register is made of CHRX, TXLOG or the moves to come. -/
theorem readPortHidesTheRest : Obligations.ReadPortHidesTheRest :=
  ⟨fun s _ h => readPort_reserved s h, fun _ _ _ _ _ => rfl⟩

/-- Settles O40, by the model's reset step and the read port after it. -/
theorem resetClearsTheBlock : Obligations.ResetClearsTheBlock := fun s =>
  ⟨s.blockReset, rfl, rfl, blockReset_fbAt s, rfl, rfl, rfl, rfl, rfl, rfl, rfl, rfl, rfl, rfl, rfl, rfl, rfl, rfl, rfl,
    rfl, blockReset_readPort s⟩

end Sys2Proof.Machine
end

section
/-! The memories a move can reach (20_memory.md R66, R67, R75): the transport's receive queue CHRX, the log TXLOG of sent
bytes, and the frame FB with FLEN and FKIND. An ADV writes them as its step says; a command that performs no step leaves
the queues alone, and the frame too while a transaction is in progress. -/

namespace Sys2Proof.Machine

namespace AdvStep
variable {s t : State} (h : AdvStep s t)
include h

/-- R66: the drain steps empty CHRX, and no step puts a byte there. -/
theorem chrx_eq : t.chrx = if s.stepIdx = 3 ∨ s.stepIdx = 6 ∨ s.stepIdx = 9 then [] else s.chrx := by
  cases h <;> simp [*]

/-- R67, R96: the slice of FB that each sending step puts at the end of TXLOG. -/
theorem txlog_eq : t.txlog = s.txlog ++
    if s.stepIdx = 1 then [s.fbAt 0]
    else if s.stepIdx = 4 then s.fbSlice 1 (s.flen.toNat - 3)
    else if s.stepIdx = 7 ∨ s.stepIdx = 10 then [s.fbAt (s.flen.toNat - 2)]
    else [] := by
  cases h <;> simp [*]

end AdvStep

/-- What a command that performs no step does to the memories: nothing, but for the frame that WRBUF and the builders
write at rest (R135, R138). -/
structure KeepsMemories (s t : State) : Prop where
  chrx : t.chrx = s.chrx
  txlog : t.txlog = s.txlog
  frame : s.inProgress → t.fb = s.fb ∧ t.flen = s.flen ∧ t.fkind = s.fkind

theorem CommandMove.keepsMemories {c : CommandWord} {s t : State} (h : CommandMove c s t)
    (hn : ∀ k, ¬PerformsStep (.command c) s k) : KeepsMemories s t := by
  cases h with
  | adv _ _ hc hk _ => subst hc; exact absurd ((performsStep_adv_iff hk _).mpr rfl) (hn s.stepIdx)
  | wrbuf _ _ _ hrest | buildr _ _ hrest | buildw _ _ hrest => exact ⟨rfl, rfl, fun hs => absurd hrest hs⟩
  | _ => exact ⟨rfl, rfl, fun _ => ⟨rfl, rfl, rfl⟩⟩

/-- Settles O34: the arrival event appends to CHRX, the drain steps empty it. -/
theorem onlyDrainStepsTakeBytes : Obligations.OnlyDrainStepsTakeBytes := by
  intro move s t h
  cases react_effect h with
  | arrival first rest => simp
  | expiry => simp
  | reset => simp
  | adv hk hstep =>
    simp only [performsStep_adv_iff hk, hstep.chrx_eq]
    exact ⟨fun hs => if_pos hs, fun h3 h6 h9 => by rw [if_neg (by tauto), List.append_nil]⟩
  | quiet hn => simp [hn, ((react_command_cases h).keepsMemories hn).chrx]

/-- Settles O35: each sending step appends its slice of FB to TXLOG, and no other move sends. -/
theorem onlySendingStepsSend : Obligations.OnlySendingStepsSend := by
  intro move s t h
  cases react_effect h with
  | arrival first rest => simp
  | expiry => simp
  | reset => simp
  | adv hk hstep =>
    simp only [performsStep_adv_iff hk, hstep.txlog_eq]
    refine ⟨fun hs => by simp [hs], fun hs => by simp [hs], ?_, fun h1 h4 h7 h10 => ?_⟩
    · rintro (hs | hs) <;> simp [hs]
    · rw [if_neg h1, if_neg h4, if_neg (not_or.mpr ⟨h7, h10⟩), List.append_nil]
  | quiet hn => simp [hn, ((react_command_cases h).keepsMemories hn).txlog]

/-- Settles O36: no step of a transaction and no event but reset writes the frame, and the commands that do are refused
until the transaction ends. -/
theorem frameIsFrozenWhileInProgress : Obligations.FrameIsFrozenWhileInProgress := by
  intro move s t h hs hreset
  cases react_effect h with
  | arrival first rest => exact ⟨rfl, rfl, rfl⟩
  | expiry => exact ⟨s.expire_fb, s.expire_flen, s.expire_fkind⟩
  | reset => exact absurd rfl hreset
  | adv _ hstep => exact ⟨hstep.fb_eq, hstep.flen_eq, hstep.fkind_eq⟩
  | quiet hn => exact ((react_command_cases h).keepsMemories hn).frame hs

end Sys2Proof.Machine
end

section
/-! The command words of R83 (30_encoding.md): each word that decodes is the one word of its instruction, R83's masks say the
same as the decoder, every operand is a field of the word, and the words left over are reserved. -/

namespace Sys2Proof.Machine

/-! ### The two bytes of the h field -/

/-- A half-word with a zero high byte is its low byte. -/
theorem zero_append_lo {h : Half} (hhi : h.extractLsb' 8 8 = 0) : 0#8 ++ h.extractLsb' 0 8 = h := by
  have hbytes : h.extractLsb' 8 8 ++ h.extractLsb' 0 8 = h := BitVec.extractLsb'_append_extractLsb' (w := 8) (len := 8)
  rwa [hhi] at hbytes

theorem lo_zero_append (val : Byte) : (0#8 ++ val : Half).extractLsb' 0 8 = val :=
  BitVec.extractLsb'_append_eq_right

/-- The h field stands at bit 16 of the word (R80). -/
theorem h_extractLsb' (c : CommandWord) {start len : Nat} (hlen : start + len ≤ 16) :
    (fieldsOf c).h.extractLsb' start len = c.extractLsb' (16 + start) len := by
  apply BitVec.eq_of_getLsbD_eq
  intro i hi
  simp only [fieldsOf, BitVec.getLsbD_extractLsb']
  grind

/-! ### The decoder against the encoder -/

theorem decode_command_eq (c : CommandWord) : decode (.command c) =
    if (fieldsOf c).z = 0 then decodeOperands (fieldsOf c) else .error .reservedZ := rfl

/-- An instruction's own word decodes to it. -/
theorem decode_encode (i : Instr) : decode (encode i) = .ok i := by
  cases i with
  | wrbuf pos val => simp [encode, decode_command_eq, decodeOperands, Laws.EncodeMatches.high_zero, lo_zero_append]
  | crc16 | buildr | buildw | adv | dec => simp [encode, decode_command_eq, decodeOperands]
  | readFrame | writeFrame => rfl

/-- The fields that are no operand are fixed: the opcode selects the arm, and R83's zero fields are checked in it. -/
theorem encode_of_decodeOperands {f : CommandFields} {i : Instr} (hz : f.z = 0) (hd : decodeOperands f = .ok i) :
    encode i = .command (wordOf f) := by
  obtain ⟨op, z, b, h, d⟩ := f
  obtain rfl : z = 0 := hz
  unfold decodeOperands at hd
  split at hd
  case h_7 => cases hd
  all_goals
    rename_i hop
    obtain rfl := hop
    split_ifs at hd with hzero
    cases hd
  · obtain ⟨hhi, rfl⟩ := hzero
    exact congrArg (fun h => PortWord.command (wordOf ⟨1, 0, b, h, 0⟩)) (zero_append_lo hhi)
  · obtain ⟨rfl, rfl⟩ := hzero; rfl
  · obtain rfl := hzero; rfl
  · obtain rfl := hzero; rfl
  · obtain ⟨rfl, rfl, rfl⟩ := hzero; rfl
  · obtain ⟨rfl, rfl⟩ := hzero; rfl

/-- A command word that decodes is its instruction's own word. -/
theorem encode_of_decode_command {c : CommandWord} {i : Instr} (h : decode (.command c) = .ok i) :
    encode i = .command c := by
  rw [decode_command_eq] at h
  split_ifs at h with hz
  rw [encode_of_decodeOperands hz h, wordOf_fieldsOf]

theorem decode_eq_ok_iff (i : Instr) (p : PortWord) : decode p = .ok i ↔ encode i = p := by
  constructor
  · intro h
    cases p with
    | command c => exact encode_of_decode_command h
    | wire w => obtain ⟨rfl, rfl⟩ | ⟨rfl, rfl⟩ := decode_wire_cases h <;> rfl
  · rintro rfl
    exact decode_encode i

/-- The opcode table's number of an instruction is read as the instruction's own word. -/
theorem tablePortWord_tableWordOf (i : Instr) : tablePortWord (tableWordOf i).1 (tableWordOf i).2 = encode i := by
  cases i with
  | wrbuf | crc16 | buildr | buildw | adv | dec => simp [tableWordOf, tablePortWord, encode]
  | readFrame | writeFrame => rfl

theorem decodeTableWord_tableWordOf (i : Instr) : decodeTableWord (tableWordOf i).1 (tableWordOf i).2 = some i := by
  rw [decodeTableWord, tablePortWord_tableWordOf, decode_encode]

/-- Settles O2: the word of an instruction decodes to it, and a word that decodes has no bit that its instruction does not
fix. -/
theorem decodeAndEncodeAgree : Obligations.DecodeAndEncodeAgree :=
  ⟨decode_eq_ok_iff, decodeTableWord_tableWordOf⟩

/-! ### Well-formed words -/

/-- R83's rows: the opcode, and the fields marked "0". -/
theorem wellFormed_iff (f : CommandFields) : f.wellFormed = true ↔ f.z = 0 ∧
    ((f.op = 1 ∧ f.h.extractLsb' 8 8 = 0 ∧ f.d = 0) ∨ (f.op = 2 ∧ f.h = 0 ∧ f.d = 0) ∨ (f.op = 3 ∧ f.d = 0) ∨
      (f.op = 4 ∧ f.b = 0) ∨ (f.op = 5 ∧ f.b = 0 ∧ f.h = 0 ∧ f.d = 0) ∨ (f.op = 6 ∧ f.b = 0 ∧ f.d = 0)) := by
  obtain ⟨op, z, b, h, d⟩ := f
  simp only [CommandFields.wellFormed, Bool.and_eq_true, beq_iff_eq]
  refine and_congr_right fun _ => ?_
  split <;> simp_all [and_assoc]

theorem wellFormed_iff_decodes (c : CommandWord) :
    (fieldsOf c).wellFormed = true ↔ ∃ i, decode (.command c) = .ok i := by
  obtain ⟨reason, hd, hw⟩ | ⟨hw, hops⟩ := decode_command_cases c
  · simp [hw, hd]
  · refine iff_of_true hw ?_
    obtain ⟨-, hd⟩ | ⟨-, hd⟩ | ⟨-, hd⟩ | ⟨-, hd⟩ | ⟨-, hd⟩ | ⟨-, hd⟩ := hops <;> exact ⟨_, hd⟩

/-! ### The decoder against R83's masks -/

/-- Every instruction's own word has its row of R83's table. -/
theorem encode_matches_row (i : Instr) : Laws.EncodeMatches.Statement i := by
  cases i with
  | wrbuf pos val => exact Laws.EncodeMatches.wrbuf pos val
  | crc16 n => exact Laws.EncodeMatches.crc16 n
  | buildr index subindex => exact Laws.EncodeMatches.buildr index subindex
  | buildw index data => exact Laws.EncodeMatches.buildw index data
  | adv => exact Laws.EncodeMatches.adv
  | dec status => exact Laws.EncodeMatches.dec status
  | readFrame => exact Laws.EncodeMatches.readFrame
  | writeFrame => exact Laws.EncodeMatches.writeFrame

/-- A word that decodes matches the row of its instruction. -/
theorem row_of_decode {c : CommandWord} {i : Instr} (h : decode (.command c) = .ok i) :
    ∃ m, commandRow i = some m ∧ c &&& m.2 = m.1 := by
  have hi := encode_matches_row i
  rw [Laws.EncodeMatches.Statement, encode_of_decode_command h] at hi
  cases hm : commandRow i with
  | none => rw [hm] at hi; exact hi.elim
  | some m => rw [hm] at hi; exact ⟨m, rfl, hi.1⟩

/-- Masking with all ones keeps a field. -/
theorem and_ofNat_of_succ_eq {w n : Nat} (hn : n + 1 = 2 ^ w) (x : BitVec w) : x &&& BitVec.ofNat w n = x := by
  have hones : BitVec.ofNat w n = BitVec.allOnes w := by
    apply BitVec.eq_of_toNat_eq
    rw [BitVec.toNat_allOnes, BitVec.toNat_ofNat, Nat.mod_eq_of_lt (by omega)]
    omega
  rw [hones, BitVec.and_allOnes]

/-- R83's mask of WRBUF covers the high byte of the h field. -/
theorem hi_eq_zero_of_masked {h : Half} (hm : h &&& 0xFF00 = 0) : h.extractLsb' 8 8 = 0 :=
  calc h.extractLsb' 8 8
    _ = h.extractLsb' 8 8 &&& BitVec.allOnes 8 := BitVec.and_allOnes.symm
    _ = (h &&& 0xFF00).extractLsb' 8 8 := (BitVec.extractLsb'_and (y := 0xFF00)).symm
    _ = 0 := by rw [hm]; rfl

/-- A masked word matches field by field. -/
theorem fields_of_masked {c mask value : CommandWord} (h : c &&& mask = value) :
    (fieldsOf c).op &&& (fieldsOf mask).op = (fieldsOf value).op ∧
    (fieldsOf c).z &&& (fieldsOf mask).z = (fieldsOf value).z ∧
    (fieldsOf c).b &&& (fieldsOf mask).b = (fieldsOf value).b ∧
    (fieldsOf c).h &&& (fieldsOf mask).h = (fieldsOf value).h ∧
    (fieldsOf c).d &&& (fieldsOf mask).d = (fieldsOf value).d := by
  rw [← h, fieldsOf_and]
  exact ⟨rfl, rfl, rfl, rfl, rfl⟩

/-- A word that matches a row of R83's table is well-formed. -/
theorem wellFormed_of_row {c : CommandWord} {i : Instr} {m : CommandWord × CommandWord} (hm : commandRow i = some m)
    (hc : c &&& m.2 = m.1) : (fieldsOf c).wellFormed = true := by
  have hf := fields_of_masked hc
  clear hc
  rw [wellFormed_iff]
  generalize fieldsOf c = f at hf ⊢
  cases i with
  | readFrame | writeFrame => cases hm
  | wrbuf | crc16 | buildr | buildw | adv | dec =>
    cases hm
    simp_all [fieldsOf, and_ofNat_of_succ_eq, hi_eq_zero_of_masked]

/-- At most one row of R83's table matches a word: under two rows' masks it would have both match values. -/
theorem row_unique {c : CommandWord} {i j : Instr} {m k : CommandWord × CommandWord} (hi : commandRow i = some m)
    (hj : commandRow j = some k) (hm : c &&& m.2 = m.1) (hk : c &&& k.2 = k.1) : m = k := by
  by_contra hne
  have hsymm : Std.Symm fun a b : CommandWord × CommandWord => a.1 &&& a.2 &&& b.2 ≠ b.1 &&& a.2 &&& b.2 :=
    ⟨fun a b h e => h (by ac_nf at e ⊢; exact e.symm)⟩
  refine commandRows_disjoint.forall ?_ ?_ hne ?_
  · cases i <;> cases hi <;> simp
  · cases j <;> cases hj <;> simp
  · rw [← hm, ← hk]
    ac_rfl

/-- A word decodes to an instruction of a row of R83's table exactly when it matches the row. -/
theorem decodes_iff_row {i : Instr} {m : CommandWord × CommandWord} (hm : commandRow i = some m) (c : CommandWord) :
    (∃ j, commandRow j = some m ∧ decode (.command c) = .ok j) ↔ c &&& m.2 = m.1 := by
  constructor
  · rintro ⟨j, hj, hd⟩
    obtain ⟨k, hk, hc⟩ := row_of_decode hd
    cases hj.symm.trans hk
    exact hc
  · intro hc
    obtain ⟨j, hd⟩ := (wellFormed_iff_decodes c).mp (wellFormed_of_row hm hc)
    obtain ⟨k, hk, hck⟩ := row_of_decode hd
    exact ⟨j, row_unique hk hm hck hc ▸ hk, hd⟩

theorem exists_instr_iff {P : Instr → Prop} : (∃ i, P i) ↔
    (∃ pos val, P (.wrbuf pos val)) ∨ (∃ n, P (.crc16 n)) ∨ (∃ index subindex, P (.buildr index subindex)) ∨
    (∃ index data, P (.buildw index data)) ∨ P .adv ∨ (∃ status, P (.dec status)) ∨ P .readFrame ∨ P .writeFrame := by
  constructor
  · rintro ⟨i, h⟩
    cases i <;> grind
  · grind

/-- R83's range fields: a WRBUF position past 13 or a CRC16 count past 7 is decoded, and refused when it runs. -/
theorem react_range {c : CommandWord} (hw : (fieldsOf c).wellFormed = true)
    (hr : ((fieldsOf c).op = 1 ∧ 13 < (fieldsOf c).b.toNat) ∨ ((fieldsOf c).op = 2 ∧ 7 < (fieldsOf c).b.toNat))
    (s : State) : react (.command c) s = .next (s.raiseCmdError .range) := by
  obtain ⟨reason, -, hw'⟩ | ⟨-, hops⟩ := decode_command_cases c
  · cases hw.symm.trans hw'
  obtain ⟨ho, hb⟩ | ⟨ho, hb⟩ := hr <;> simp [ho] at hops
  · rw [react_command hops, exec, execWrbuf, if_pos hb]
  · rw [react_command hops, exec, execCrc16, if_pos hb]

/-- Settles O3: a word decodes to a row's mnemonic exactly when it matches the row, and it matches at most one. -/
theorem wordEncodesMnemonicByMaskAndMatch : Obligations.WordEncodesMnemonicByMaskAndMatch := by
  intro c
  refine ⟨?_, ?_, ?_, ?_, ?_, ?_, fun _ _ _ _ => row_unique, wellFormed_iff_decodes c, fun s hw hr => react_range hw hr s⟩
  · simpa [exists_instr_iff, commandRow] using decodes_iff_row (i := .wrbuf 0 0) rfl c
  · simpa [exists_instr_iff, commandRow] using decodes_iff_row (i := .crc16 0) rfl c
  · simpa [exists_instr_iff, commandRow] using decodes_iff_row (i := .buildr 0 0) rfl c
  · simpa [exists_instr_iff, commandRow] using decodes_iff_row (i := .buildw 0 0) rfl c
  · simpa [exists_instr_iff, commandRow] using decodes_iff_row (i := .adv) rfl c
  · simpa [exists_instr_iff, commandRow] using decodes_iff_row (i := .dec 0) rfl c

/-! ### Operands and reserved words -/

/-- Settles O4, opcode by opcode: the operands are the fields of R81, and `val` of WRBUF the low byte of the h field. -/
theorem operandsAreTheirFields : Obligations.OperandsAreTheirFields := by
  intro c i h
  obtain ⟨reason, hd, -⟩ | ⟨-, hops⟩ := decode_command_cases c
  · cases h.symm.trans hd
  obtain ⟨ho, hd⟩ | ⟨ho, hd⟩ | ⟨ho, hd⟩ | ⟨ho, hd⟩ | ⟨ho, hd⟩ | ⟨ho, hd⟩ := hops <;> cases h.symm.trans hd
  · exact ⟨ho, rfl, h_extractLsb' c (by omega)⟩
  · exact ⟨ho, rfl⟩
  · exact ⟨ho, rfl, rfl⟩
  · exact ⟨ho, rfl, rfl⟩
  · exact ho
  · exact ⟨ho, rfl⟩

/-- R85: a word that is not well-formed raises ILLEGAL, whatever it spoils. -/
theorem react_illegal {c : CommandWord} (hw : ¬(fieldsOf c).wellFormed = true) (s : State) :
    react (.command c) s = .next (s.raiseCmdError .illegal) := by
  obtain ⟨reason, hd, -⟩ | ⟨hw', -⟩ := decode_command_cases c
  · exact react_reserved hd s
  · exact absurd hw' hw

/-- Settles O5: in a well-formed word none of R85's three kinds of reserved field can stand, row by row of R83. -/
theorem reservedWordsRaiseIllegal : Obligations.ReservedWordsRaiseIllegal := by
  intro c s h
  refine react_illegal (fun hw => ?_) s
  have hadv := eq_advWord hw
  obtain ⟨hz, hrow⟩ := (wellFormed_iff _).mp hw
  rw [h_extractLsb' c (by omega)] at hrow
  simp only [fieldsOf] at hz hrow
  obtain ⟨ho, hf⟩ | ⟨ho, hf⟩ | ⟨ho, hf⟩ | ⟨ho, hf⟩ | ⟨ho, -⟩ | ⟨ho, hf⟩ := hrow
  case inr.inr.inr.inr.inl =>
    rw [hadv ho] at h
    exact absurd h (by decide)
  all_goals simp [ho, hz, hf] at h

/-- Settles O1: the decoder is run on each word. -/
theorem writtenOutWordsDecode : Obligations.WrittenOutWordsDecode := by
  unfold Obligations.WrittenOutWordsDecode
  decide

end Sys2Proof.Machine
end

section
/-! What the frame builders and the wire rows do (41_frame_builder.md R131, R133; 30_encoding.md R94), as whole next states. -/

namespace Sys2Proof.Machine

/-- Settles O10: with no transaction in progress BUILDR is accepted, and the bytes it loads are those of R90. -/
theorem buildrBuildsTheReadFrame : Obligations.BuildrBuildsTheReadFrame := by
  intro index subindex s hs
  obtain ⟨hbusy, -⟩ | ⟨-, hload⟩ := execBuildr_cases index subindex s
  · exact absurd hs hbusy
  · rw [exec, hload, State.accept_eq]
    rfl

/-- Settles O11: with no transaction in progress BUILDW is accepted, and the bytes it loads are those of R91. -/
theorem buildwBuildsTheWriteFrame : Obligations.BuildwBuildsTheWriteFrame := by
  intro index data s hs
  obtain ⟨hbusy, -⟩ | ⟨-, hload⟩ := execBuildw_cases index data s
  · exact absurd hs hbusy
  · rw [exec, hload, State.accept_eq]
    rfl

/-- Settles O13: a wire row is the arrival event on the two bytes of its header, which are computed. -/
theorem wireHeadersArriveAsBytes : Obligations.WireHeadersArriveAsBytes :=
  fun _ => ⟨rfl, rfl⟩

end Sys2Proof.Machine
end

section
/-! What the checksum engine computes (40_crc_engine.md R110 to R120), word by word. -/

namespace Sys2Proof.Machine

/-! ### The engine word by word -/

/-- The engine after the 16 bits of one more word. -/
def crcWord (r w : Half) : Half := (wordBits w).foldl crcBit r

@[simp] theorem crc16_zero (buf : List Byte) : crc16 buf 0 = 0 := rfl

theorem crc16_succ_eq_crcWord (buf : List Byte) (n : Nat) :
    crc16 buf (n + 1) = crcWord (crc16 buf n) (crcWordAt buf n) := crc16_succ buf n

/-- One word is linear over GF(2), because each of its bits is. -/
theorem crcWord_xor (r q v w : Half) : crcWord (r ^^^ q) (v ^^^ w) = crcWord r v ^^^ crcWord q w := by
  simp only [crcWord, wordBits, List.foldl_map, BitVec.getLsbD_xor]
  exact List.foldl_hom₂ _ _ _ _ _ _ _ fun _ _ _ => (crcBit_xor ..).symm

/-- While the top bit is clear there is no carry: a bit is only shifted in. -/
theorem crcBit_ushiftRight (w : Half) (i : Nat) : crcBit (w >>> (i + 1)) (w.getLsbD i) = w >>> i := by
  have hcarry : (w >>> (i + 1)).msb = false := by simp [BitVec.msb_ushiftRight]
  rw [crcBit_eq_xor, hcarry]
  apply BitVec.eq_of_getLsbD_eq
  rintro (_ | k) hk
  · cases h : w.getLsbD i <;> simp [h]
  · cases w.getLsbD i <;> simp [hk, Nat.add_right_comm, ← Nat.add_assoc]

/-- From 0, the first `j` bits of a word leave its upper `j` bits in the register. -/
theorem foldl_crcBit_upper_bits (w : Half) {j : Nat} (hj : j ≤ 16) :
    (List.range j).foldl (fun r k => crcBit r (w.getLsbD (15 - k))) 0 = w >>> (16 - j) := by
  induction j with
  | zero => exact (BitVec.ushiftRight_eq_zero le_rfl).symm
  | succ j ih =>
    have hsucc : 16 - j = 15 - j + 1 := by omega
    rw [List.range_succ, List.foldl_append, ih (by omega), hsucc, Nat.succ_sub_succ 15]
    exact crcBit_ushiftRight w (15 - j)

/-- R116 item 2: from 0, one word is its own checksum. -/
theorem crcWord_zero_left (w : Half) : crcWord 0 w = w := by
  simpa [crcWord, wordBits, List.foldl_map] using foldl_crcBit_upper_bits w (j := 16) le_rfl

/-- R114: the checksum depends only on the bytes below `2n`. -/
theorem crc16_congr {a b : List Byte} {n : Nat} (h : ∀ i, i < 2 * n → byteAt a i = byteAt b i) :
    crc16 a n = crc16 b n := by
  rw [crc16, crcBits_congr h, crc16]

/-- A message of `n` words, followed by one word. -/
theorem crc16_append_word {m : List Byte} {n : Nat} (hm : m.length = 2 * n) (first second : Byte) :
    crc16 (m ++ [first, second]) (n + 1) = crcWord (crc16 m n) (first ++ second) := by
  have hhead : crc16 (m ++ [first, second]) n = crc16 m n :=
    crc16_congr fun i hi => byteAt_append_left (by omega)
  have hword : crcWordAt (m ++ [first, second]) n = first ++ second := by
    simp [crcWordAt, bigEndian16, byteAt, ← hm]
  rw [crc16_succ_eq_crcWord, hhead, hword]

/-! ### R110, R114, R116 and the vectors -/

/-- Settles O45: the loop of R110 is the fold over the stream, and its three steps are the XORs of the bit. -/
theorem crcIsTheBitSerialLoop : Obligations.CrcIsTheBitSerialLoop := by
  refine ⟨fun _ => rfl, fun buf n _ => ?_, fun r bit => ?_⟩
  · rw [crc16_succ, wordBits, List.foldl_map]
    rfl
  · have hcarry : r.msb = r.getLsbD 15 := BitVec.msb_eq_getLsbD_last r
    rw [crcBit, hcarry]
    cases bit <;> cases r.getLsbD 15 <;> simp [Config.crcPoly]

/-- Settles O47: the bytes below `2n` are those of the prefix. -/
theorem crcReadsOnlyItsWords : Obligations.CrcReadsOnlyItsWords := by
  intro buf other n h
  have hbyte (l : List Byte) {i : Nat} (hi : i < 2 * n) : byteAt (l.take (2 * n)) i = byteAt l i := by
    simp [byteAt, List.getD_eq_getElem?_getD, List.getElem?_take_of_lt hi]
  exact crc16_congr fun i hi => by rw [← hbyte buf hi, h, hbyte other hi]

/-- Of two buffers of one length, a byte past the end being 0 in both. -/
theorem byteAt_zipWith_xor {a b : List Byte} (h : a.length = b.length) (i : Nat) :
    byteAt (List.zipWith (· ^^^ ·) a b) i = byteAt a i ^^^ byteAt b i := by
  have hlen : (List.zipWith (· ^^^ ·) a b).length = a.length := by simp [h]
  rcases Nat.lt_or_ge i a.length with hi | hi
  · rw [byteAt_of_lt (hlen ▸ hi), byteAt_of_lt hi, byteAt_of_lt (h ▸ hi), List.getElem_zipWith]
  · rw [byteAt_of_length_le (hlen ▸ hi), byteAt_of_length_le hi, byteAt_of_length_le (h ▸ hi)]
    rfl

theorem crcWordAt_zipWith_xor {a b : List Byte} (h : a.length = b.length) (i : Nat) :
    crcWordAt (List.zipWith (· ^^^ ·) a b) i = crcWordAt a i ^^^ crcWordAt b i := by
  simp only [crcWordAt, bigEndian16, byteAt_zipWith_xor h, ← BitVec.xor_append]

/-- Settles O49, word by word. -/
theorem crcIsLinear : Obligations.CrcIsLinear := by
  intro a b n hlen _
  clear * - hlen
  induction n with
  | zero => simp
  | succ n ih => simp only [crc16_succ_eq_crcWord, ih, crcWordAt_zipWith_xor hlen, crcWord_xor]

theorem crc16_replicate_zero (k n : Nat) : crc16 (List.replicate k 0) n = 0 := by
  induction n with
  | zero => rfl
  | succ n ih =>
    have hword : crcWordAt (List.replicate k 0) n = 0 := by
      simp only [crcWordAt, byteAt_replicate_zero]
      rfl
    rw [crc16_succ_eq_crcWord, ih, hword, crcWord_zero_left]

/-- R116 item 5: a leading zero word leaves the register at 0. -/
theorem crc16_zero_word_append (a : List Byte) (n : Nat) : crc16 ([0, 0] ++ a) (n + 1) = crc16 a n := by
  induction n with
  | zero =>
    have hword : crcWordAt ([0, 0] ++ a) 0 = 0 := by simp [crcWordAt, bigEndian16, byteAt]
    rw [crc16_succ_eq_crcWord, hword]
    exact crcWord_zero_left 0
  | succ n ih =>
    rw [crc16_succ_eq_crcWord, ih, crc16_succ_eq_crcWord]
    rfl

/-- R116 item 7: by linearity the word `c` adds `crcWord 0 c = c` to the checksum `c` of the zero word. -/
theorem crcWord_self_cancels (r : Half) : crcWord r (crcWord r 0) = 0 := by
  calc crcWord r (crcWord r 0) = crcWord (r ^^^ 0) (0 ^^^ crcWord r 0) := by simp
    _ = crcWord r 0 ^^^ crcWord 0 (crcWord r 0) := crcWord_xor ..
    _ = 0 := by rw [crcWord_zero_left]; exact BitVec.xor_self

theorem hi_append_lo (w : Half) : (w.extractLsb' 8 8 ++ w.extractLsb' 0 8 : Half) = w :=
  (BitVec.extractLsb'_append_extractLsb'_eq_extractLsb' rfl).trans BitVec.extractLsb'_eq_self

/-- Settles O50: each corner from the rule of one word. -/
theorem crcCornersAndResidue : Obligations.CrcCornersAndResidue := by
  refine ⟨fun _ => rfl, fun b0 b1 rest => crcWord_zero_left (b0 ++ b1), fun n => crc16_replicate_zero _ n,
    fun a n _ => crc16_zero_word_append a n, fun m n hm => ?_⟩
  simp only [crc16_append_word hm, hi_append_lo]
  exact crcWord_self_cancels (crc16 m n)

/-- Settles O9: CRC16 with n up to 7 is not refused with RANGE. -/
theorem crc16WritesTheChecksum : Obligations.Crc16WritesTheChecksum := by
  intro n s hn
  obtain ⟨hrange, -⟩ | ⟨-, hnext⟩ := execCrc16_cases n s
  · omega
  · rw [exec, hnext, State.accept_eq]

/-- R120: the checksum of the golden vector, computed. -/
theorem crc16_golden : crc16 [0x10, 0x01, 0x41, 0x60, 0x00, 0x02, 0x00, 0x00] 4 = 0x13D4 := by decide +kernel

/-- Settles O46: the frame BUILDR loads carries the checksum of the golden vector, low byte first. -/
theorem goldenChecksum : Obligations.GoldenChecksum := by
  refine ⟨crc16_golden, fun s hs => ?_⟩
  have hcrc : crc16 [0x10, 0x01, (0x6041 : Half).extractLsb' 0 8, (0x6041 : Half).extractLsb' 8 8, 0x00, 0x02, 0x00, 0x00] 4 =
      0x13D4 := crc16_golden
  have hnext := buildrBuildsTheReadFrame 0x6041 0 s hs
  simp only [hcrc] at hnext
  exact ⟨_, hnext, by simp [State.fbAt, byteAt], by simp [State.fbAt, byteAt]⟩

end Sys2Proof.Machine
end

section
/-! The checksum as a remainder over GF(2) (40_crc_engine.md R115): modulo P, the register and the polynomial of the bits read
so far stay congruent. -/

namespace Sys2Proof.Machine

open Polynomial

/-- A bit as a constant polynomial over GF(2). -/
noncomputable def bitPoly (b : Bool) : (ZMod 2)[X] := if b then 1 else 0

/-- The polynomial of a 16-bit register, bit `k` the coefficient of `x^k`. -/
noncomputable def regPoly (r : Half) : (ZMod 2)[X] := ∑ k ∈ Finset.range 16, bitPoly (r.getLsbD k) * X ^ k

/-- R115's P. -/
noncomputable def crcModulus : (ZMod 2)[X] := X ^ 16 + X ^ 12 + X ^ 5 + 1

/-- One more bit of a bit stream read as a polynomial, the first bit its highest power. -/
noncomputable def pushBit (p : (ZMod 2)[X]) (b : Bool) : (ZMod 2)[X] := X * p + bitPoly b

/-- R115's M: the polynomial of the bits of the first `n` words. -/
noncomputable def messagePoly (buf : List Byte) (n : Nat) : (ZMod 2)[X] := (crcBits buf n).foldl pushBit 0

theorem bitPoly_xor (a b : Bool) : bitPoly (a ^^ b) = bitPoly a + bitPoly b := by
  cases a <;> cases b <;> simp [bitPoly, CharTwo.add_self_eq_zero]

theorem regPoly_xor (r q : Half) : regPoly (r ^^^ q) = regPoly r + regPoly q := by
  simp only [regPoly, BitVec.getLsbD_xor, bitPoly_xor, add_mul, Finset.sum_add_distrib]

/-- Multiplying by `x` shifts the register, the carry being the `x^16` that falls out of it. -/
theorem X_mul_regPoly (r : Half) :
    X * regPoly r = regPoly (r <<< 1) + bitPoly r.msb * X ^ 16 := by
  have hlow : bitPoly ((r <<< 1).getLsbD 0) = 0 := by simp [bitPoly]
  have hbit (k : Nat) (hk : k < 15) : (r <<< 1).getLsbD (k + 1) = r.getLsbD k := by
    have hk16 : k + 1 < 16 := by omega
    simp [hk16, -BitVec.getLsbD_eq_getElem]
  have hcarry : r.msb = r.getLsbD 15 := BitVec.msb_eq_getLsbD_last r
  rw [regPoly, regPoly, Finset.sum_range_succ, Finset.sum_range_succ' _ 15, hlow, hcarry, mul_add, Finset.mul_sum]
  have hsum : ∀ k ∈ Finset.range 15, X * (bitPoly (r.getLsbD k) * X ^ k) =
      bitPoly ((r <<< 1).getLsbD (k + 1)) * X ^ (k + 1) := fun k hk => by
    rw [hbit k (Finset.mem_range.mp hk)]; ring
  rw [Finset.sum_congr rfl hsum]
  ring

@[simp] theorem regPoly_zero : regPoly 0#16 = 0 := by simp [regPoly, bitPoly]

theorem regPoly_one : regPoly 1#16 = 1 := by simp [regPoly, bitPoly]

/-- R113: the bits of 0x1021 are those of P below `x^16`. -/
theorem regPoly_crcPoly : regPoly Config.crcPoly + X ^ 16 = crcModulus := by
  simp [regPoly, bitPoly, Config.crcPoly, crcModulus, Finset.sum_range_succ]
  ring

/-- One bit of the loop is pushing it, less P when there is a carry. -/
theorem pushBit_regPoly (r : Half) (b : Bool) :
    pushBit (regPoly r) b = regPoly (crcBit r b) + bitPoly r.msb * crcModulus := by
  have hdata : regPoly (if b then 1 else 0) = bitPoly b := by cases b <;> simp [bitPoly, regPoly_one]
  have hpoly : regPoly (if r.msb then Config.crcPoly else 0) = bitPoly r.msb * regPoly Config.crcPoly := by
    cases r.msb <;> simp [bitPoly]
  rw [pushBit, X_mul_regPoly, crcBit_eq_xor, regPoly_xor, regPoly_xor, hdata, hpoly, ← regPoly_crcPoly]
  linear_combination (-bitPoly r.msb * regPoly Config.crcPoly) * CharTwo.two_eq_zero (R := (ZMod 2)[X])

/-- The engine and the polynomial of the stream stay congruent modulo P, bit by bit. -/
theorem crcModulus_dvd_messagePoly_sub (buf : List Byte) (n : Nat) :
    crcModulus ∣ messagePoly buf n - regPoly (crc16 buf n) := by
  refine List.foldl_rel (r := fun p r => crcModulus ∣ p - regPoly r) (by simp [Config.crcInit]) fun b _ p r h => ?_
  have hstep : pushBit p b - regPoly (crcBit r b) =
      X * (p - regPoly r) + bitPoly r.msb * crcModulus := by
    rw [← sub_eq_iff_eq_add.mpr (pushBit_regPoly r b), pushBit, pushBit]
    ring
  rw [hstep]
  exact dvd_add (h.mul_left _) (dvd_mul_left _ _)

theorem degree_crcModulus : crcModulus.degree = 16 := by
  rw [crcModulus]
  compute_degree!

theorem crcModulus_monic : crcModulus.Monic := by
  rw [crcModulus]
  monicity!

theorem degree_regPoly_lt (r : Half) : (regPoly r).degree < 16 := by
  refine mem_degreeLT.mp (Submodule.sum_mem _ fun k hk => mem_degreeLT.mpr ?_)
  have hk16 : (k : WithBot Nat) < 16 := by exact_mod_cast Finset.mem_range.mp hk
  cases r.getLsbD k <;> simp [bitPoly, hk16, WithBot.bot_lt_iff_ne_bot]

/-- R115: the checksum is the remainder of the polynomial of the stream. -/
theorem regPoly_crc16 (buf : List Byte) (n : Nat) : regPoly (crc16 buf n) = messagePoly buf n %ₘ crcModulus := by
  rw [modByMonic_eq_of_dvd_sub crcModulus_monic (crcModulus_dvd_messagePoly_sub buf n)]
  refine ((modByMonic_eq_self_iff crcModulus_monic).mpr ?_).symm
  rw [degree_crcModulus]
  exact degree_regPoly_lt _

/-- Sixteen pushes are one word. -/
theorem foldl_pushBit_wordBits (p : (ZMod 2)[X]) (w : Half) :
    (wordBits w).foldl pushBit p = X ^ 16 * p + regPoly w := by
  simp [wordBits, List.range_succ, pushBit, regPoly, Finset.sum_range_succ]
  ring

theorem messagePoly_succ (buf : List Byte) (n : Nat) :
    messagePoly buf (n + 1) = X ^ 16 * messagePoly buf n + regPoly (crcWordAt buf n) := by
  rw [messagePoly, crcBits_succ, List.foldl_append, foldl_pushBit_wordBits, messagePoly]

/-- R115: word `i` of `n` stands `16 * (n - 1 - i)` powers up. -/
theorem messagePoly_eq_sum (buf : List Byte) (n : Nat) :
    messagePoly buf n = ∑ i ∈ Finset.range n, X ^ (16 * (n - 1 - i)) * regPoly (crcWordAt buf i) := by
  induction n with
  | zero => simp [messagePoly]
  | succ n ih =>
    have hup : ∀ i ∈ Finset.range n, X ^ 16 * (X ^ (16 * (n - 1 - i)) * regPoly (crcWordAt buf i)) =
        X ^ (16 * (n + 1 - 1 - i)) * regPoly (crcWordAt buf i) := fun i hi => by
      have hexp : 16 * (n + 1 - 1 - i) = 16 + 16 * (n - 1 - i) := by have := Finset.mem_range.mp hi; omega
      rw [hexp, pow_add, mul_assoc]
    rw [messagePoly_succ, ih, Finset.mul_sum, Finset.sum_congr rfl hup, Finset.sum_range_succ]
    simp

theorem X_pow_mul_regPoly (e : Nat) (w : Half) : X ^ e * regPoly w =
    ∑ k ∈ Finset.range 16, if w.getLsbD k then X ^ (e + k) else 0 := by
  simp only [regPoly, bitPoly, Finset.mul_sum, ite_mul, one_mul, zero_mul, mul_ite, mul_zero, pow_add]

/-- Settles O48: the congruence modulo P, the register being of lower degree than P. -/
theorem crcIsPolynomialRemainder : Obligations.CrcIsPolynomialRemainder := by
  intro buf n _
  have hreg := X_pow_mul_regPoly 0 (crc16 buf n)
  simp only [pow_zero, one_mul, zero_add] at hreg
  rw [← hreg, regPoly_crc16, messagePoly_eq_sum]
  simp only [X_pow_mul_regPoly]
  rfl

end Sys2Proof.Machine
end

section
/-! The busy interlock of the FB writers (41_frame_builder.md R135) and the one byte WRBUF writes (R137). -/

namespace Sys2Proof.Machine

theorem unlessBusy_of_busy {s : State} (hs : s.stepIdx ≠ 0) (accepted : State) :
    s.unlessBusy accepted = .next { s with cerr := .busy, cerrs := true } := by
  obtain ⟨-, hbusy⟩ | ⟨hrest, -⟩ := unlessBusy_cases s accepted
  · exact hbusy
  · exact absurd hrest hs

theorem unlessBusy_of_rest {s : State} (hs : s.stepIdx = 0) (accepted : State) :
    s.unlessBusy accepted = .next { accepted with cerr := .ok } := by
  obtain ⟨hbusy, -⟩ | ⟨-, hnext⟩ := unlessBusy_cases s accepted
  · exact absurd hs hbusy
  · rw [hnext, State.accept_eq]

/-- R137: WRBUF that meets neither RANGE nor BUSY. -/
theorem execWrbuf_of_rest {pos : Byte} {s : State} (hpos : pos.toNat ≤ 13) (hs : s.stepIdx = 0) (val : Byte) :
    execWrbuf pos val s = .next { s with fb := s.fb.setIfInBounds pos.toNat val, cerr := .ok } := by
  obtain ⟨hrange, -⟩ | ⟨-, hbusy, -⟩ | ⟨-, -, hnext⟩ := execWrbuf_cases pos val s
  · omega
  · exact absurd hs hbusy
  · rw [hnext, State.accept_eq]

/-- R222: while a transaction is in progress WRBUF is refused, and a position past 13 is reported as RANGE. -/
theorem execWrbuf_of_busy {s : State} (hs : s.stepIdx ≠ 0) (pos val : Byte) :
    execWrbuf pos val s = .next { s with cerr := if pos.toNat ≤ 13 then .busy else .range, cerrs := true } := by
  obtain ⟨hrange, e⟩ | ⟨hpos, -, e⟩ | ⟨-, hrest, -⟩ := execWrbuf_cases pos val s
  · rw [e, if_neg (by omega), State.raiseCmdError]
  · rw [e, if_pos hpos, State.raiseCmdError]
  · exact absurd hrest hs

theorem byteAt_set_self {buf : List Byte} {i : Nat} (hi : i < buf.length) (v : Byte) : byteAt (buf.set i v) i = v := by
  rw [byteAt_of_lt (by simpa using hi), List.getElem_set_self]

theorem byteAt_set_ne (buf : List Byte) {i k : Nat} (hk : k ≠ i) (v : Byte) : byteAt (buf.set i v) k = byteAt buf k := by
  simp [byteAt, List.getElem?_set_ne hk.symm]

/-- Settles O17: the builders are the interlock on their frames, and WRBUF is it once RANGE is ruled out. -/
theorem frameWritersRefusedWhileBusy : Obligations.FrameWritersRefusedWhileBusy :=
  ⟨fun _ hs => ⟨fun _ _ => unlessBusy_of_busy hs _, fun _ _ => unlessBusy_of_busy hs _, execWrbuf_of_busy hs⟩,
    fun _ hs => ⟨fun _ _ => ⟨_, unlessBusy_of_rest hs _, rfl⟩, fun _ _ => ⟨_, unlessBusy_of_rest hs _, rfl⟩,
      fun _ val hpos => ⟨_, execWrbuf_of_rest hpos hs val, rfl⟩⟩⟩

/-- Settles O8: FB after the write is the list of its bytes with the one at `pos` replaced. -/
theorem wrbufWritesOneByte : Obligations.WrbufWritesOneByte := by
  intro pos val s hpos hs
  refine ⟨_, execWrbuf_of_rest hpos hs val, rfl, ?_, fun k hk => ?_⟩
  · rw [State.fbAt, Vector.toList_setIfInBounds, byteAt_set_self (by simpa using Nat.lt_succ_of_le hpos)]
  · rw [State.fbAt, Vector.toList_setIfInBounds, byteAt_set_ne _ hk, State.fbAt]

end Sys2Proof.Machine
end

section
/-! The steps of a transaction (42_transaction.md R153 to R178), each as the whole next state an accepted ADV gives. -/

namespace Sys2Proof.Machine

/-! ### An accepted ADV -/

/-- R150: with a frame built ADV performs the step STEP numbers. -/
theorem exec_adv {s : State} (hk : s.fkind ≠ .none) : exec .adv s = s.performStep := if_neg hk

theorem exec_adv_of_noframe {s : State} (hk : s.fkind = .none) :
    exec .adv s = .next (s.raiseCmdError .noframe) := if_pos hk

/-- An accepted step leaves what it did, and CERR = 0. -/
theorem exec_adv_next {s t : State} (hk : s.fkind ≠ .none) (h : s.performStep = .next t.accept) :
    exec .adv s = .next { t with cerr := .ok } := by
  rw [exec_adv hk, h, State.accept_eq]

theorem withFrameLength_of_flen {s : State} (h : s.flen = 10 ∨ s.flen = 14) (act : Nat → State → State) :
    s.withFrameLength act = .next (act s.flen.toNat s).accept := by
  obtain ⟨-, e⟩ | ⟨h10, h14, -⟩ := withFrameLength_cases act s
  · exact e
  · exact absurd h (not_or.mpr ⟨h10, h14⟩)

/-- An accepted sending step, which needs the frame's length. -/
theorem exec_adv_sending {s : State} (hk : s.fkind ≠ .none) (hlen : s.flen = 10 ∨ s.flen = 14)
    {act : Nat → State → State} (h : s.performStep = s.withFrameLength act) :
    exec .adv s = .next { act s.flen.toNat s with cerr := .ok } :=
  exec_adv_next hk (h.trans (withFrameLength_of_flen hlen act))

theorem flen_of_withFrameLength_next {s t : State} {act : Nat → State → State} (h : s.withFrameLength act = .next t) :
    s.flen = 10 ∨ s.flen = 14 := by
  obtain ⟨hlen, -⟩ | ⟨-, -, e⟩ := withFrameLength_cases act s
  · exact hlen
  · cases h.symm.trans e

/-! ### Starting, sending, discarding, ending -/

/-- Settles O19, from the equations of steps 0 and 1. -/
theorem stepsZeroAndOneStartTheExchange : Obligations.StepsZeroAndOneStartTheExchange := by
  refine fun s hk => ⟨fun hs => exec_adv_next hk (performStep_start hs), fun hs => ?_⟩
  have hfirst : s.fbAt 0 = s.fb[0] := fbAt_eq s 0
  rw [← hfirst]
  exact exec_adv_next hk (performStep_sendOpcode hs)

/-- Settles O21, from the equation of step 3. -/
theorem stepThreeDiscardsTheResponse : Obligations.StepThreeDiscardsTheResponse :=
  fun _ hk hs => exec_adv_next hk (performStep_discard hs)

/-- Settles O22, with the length 10 or 14 the sending steps ask for. -/
theorem sendingStepsSendTheirSlices : Obligations.SendingStepsSendTheirSlices := fun _ hk hlen =>
  ⟨fun hs => exec_adv_sending hk hlen (performStep_sendBody hs),
    fun hs => exec_adv_sending hk hlen (performStep_sendAck hs),
    fun hs => exec_adv_sending hk hlen (performStep_finalAck hs)⟩

/-- Settles O26, from the equations of the three terminal steps. -/
theorem terminalStepsRecordTheOutcome : Obligations.TerminalStepsRecordTheOutcome := fun _ hk =>
  ⟨fun hs => exec_adv_next hk (performStep_success hs), fun hs => exec_adv_next hk (performStep_failed hs),
    fun hs => exec_adv_next hk (performStep_timedOut hs)⟩

/-! ### Polling -/

/-- The poll steps, each with the drain step it goes on to and the code of its deadline (R155, R158, R161). -/
def pollSteps : List (BitVec 6 × BitVec 6 × Diag) := [(2, 3, .timeoutP1), (5, 6, .timeoutP2), (8, 9, .timeoutP3)]

theorem performStep_poll {here next : BitVec 6} {code : Diag} (h : (here, next, code) ∈ pollSteps) {s : State}
    (hs : s.stepIdx = here) : s.performStep = .next (s.poll next code).accept := by
  simp only [pollSteps, List.mem_cons, Prod.mk.injEq, List.not_mem_nil, or_false] at h
  obtain ⟨rfl, rfl, rfl⟩ | ⟨rfl, rfl, rfl⟩ | ⟨rfl, rfl, rfl⟩ := h
  · exact performStep_pollOpcode hs
  · exact performStep_pollBody hs
  · exact performStep_pollData hs

/-- Settles O20: the three steps are one poll, which DR decides first. -/
theorem pollStepsWaitForReadyOrDeadline : Obligations.PollStepsWaitForReadyOrDeadline := by
  intro s hk here next code hpoll hs
  rw [exec_adv_next hk (performStep_poll hpoll hs)]
  obtain ⟨hdr, e⟩ | ⟨hdr, hexp, e⟩ | ⟨hdr, hexp, e⟩ := poll_cases next code s <;> rw [e]
  · rw [if_pos hdr]
    rfl
  · rw [if_neg (by simp [hdr]), if_pos hexp]
    rfl
  · rw [if_neg (by simp [hdr]), if_neg (by simp [hexp])]

/-! ### Draining -/

/-- Settles O23: RXB is the drained bytes, cut or filled with zeros to RXCAP. -/
theorem drainStoreFillsTheReceiveBuffer : Obligations.DrainStoreFillsTheReceiveBuffer := by
  refine fun s => ⟨_, rfl, rfl, drainStore_rxb_length s, fun i hi => ?_, drainStore_rxlen_toNat s, ?_⟩
  · have hlen : i < s.drainStore.rxb.length := by rwa [drainStore_rxb_length]
    rw [List.getElem?_eq_getElem hlen, ← byteAt_of_lt hlen, drainStore_byteAt, if_pos hi]
    split_ifs with hc
    · rw [byteAt_of_lt hc]
    · rw [byteAt_of_length_le (Nat.le_of_not_lt hc)]
  · rw [State.drainStore_rxovf, decide_eq_true_iff]

theorem stepCheckAck_of_empty {s : State} (hc : s.chrx = []) : s.stepCheckAck = s.drainStore.jumpWith .empty 30 := by
  have hnone : s.drainStore.rxlen = 0 := by simp [hc]
  obtain ⟨hne, -⟩ | ⟨-, e⟩ | ⟨hne, -⟩ := stepCheckAck_cases s
  · exact absurd hnone hne
  · exact e
  · exact absurd hnone hne

/-- R159: of the drained bytes only the first is looked at. -/
theorem stepCheckAck_of_cons {s : State} (hcap : 0 < s.rxcap.toNat) {first : Byte} {rest : List Byte}
    (hc : s.chrx = first :: rest) : s.stepCheckAck =
      if first = Config.ackMarker then s.drainStore.goto 7 else s.drainStore.jumpWith .badAck 30 := by
  have hsome : s.drainStore.rxlen ≠ 0 := drainStore_rxlen_ne_zero (by simp [hc]) hcap
  have hfirst : byteAt s.drainStore.rxb 0 = first := by rw [drainStore_byteAt, if_pos hcap, hc]; rfl
  obtain ⟨-, hb, e⟩ | ⟨hnone, -⟩ | ⟨-, hb, e⟩ := stepCheckAck_cases s
  · rw [e, if_pos (hfirst ▸ hb)]
  · exact absurd hnone hsome
  · rw [e, if_neg (hfirst ▸ hb)]

/-- Settles O24, by whether the drain was empty. -/
theorem stepSixChecksTheFirstByte : Obligations.StepSixChecksTheFirstByte := by
  refine fun s hk hs hcap => ⟨fun hc => ?_, fun first rest hc => ?_⟩ <;>
    rw [exec_adv_next hk (performStep_checkAck hs)]
  · rw [stepCheckAck_of_empty hc]
    rfl
  · rw [stepCheckAck_of_cons (by omega) hc]
    split_ifs <;> rfl

theorem stepTakeRead_of_short {s : State} (hc : s.chrx.length < 7) :
    s.stepTakeRead = s.drainStore.jumpWith .decode 30 := by
  have hlen := drainStore_rxlen_toNat s
  obtain ⟨h7, -⟩ | ⟨-, e⟩ := stepTakeRead_cases s
  · omega
  · exact e

/-- R163: RXCAP is at least 7, so RXB holds bytes 5 and 6 of a drain of at least 7 bytes. -/
theorem stepTakeRead_of_long {s : State} (hcap : 7 ≤ s.rxcap.toNat) (hc : 7 ≤ s.chrx.length) :
    s.stepTakeRead = State.goto 10 { s.drainStore with result := resultWord s.chrx[5] s.chrx[6] } := by
  have hresult := stepTakeRead_result s hcap
  have hlen := drainStore_rxlen_toNat s
  obtain ⟨-, e⟩ | ⟨h7, -⟩ := stepTakeRead_cases s
  · rw [e, State.goto_result, dif_pos hc] at hresult
    rw [e, ← hresult]
  · omega

theorem performStep_takeWrite {s : State} (hs : s.stepIdx = 9#6) (hk : s.fkind = .write) :
    s.performStep = .next (s.drainStore.goto 10).accept := by
  rw [performStep_take hs, if_neg (by simp [hk]), State.stepTakeWrite_eq]

theorem performStep_takeRead {s : State} (hs : s.stepIdx = 9#6) (hk : s.fkind = .read) :
    s.performStep = .next s.stepTakeRead.accept := by
  rw [performStep_take hs, if_pos hk]

theorem performStep_takeRead_of_long {s : State} (hs : s.stepIdx = 9#6) (hk : s.fkind = .read)
    (hcap : 7 ≤ s.rxcap.toNat) (hc : 7 ≤ s.chrx.length) : s.performStep =
      .next (State.goto 10 { s.drainStore with result := resultWord s.chrx[5] s.chrx[6] }).accept := by
  rw [performStep_takeRead hs hk, stepTakeRead_of_long hcap hc]

/-- Settles O25, by the shape of the transaction and the length of the drain. -/
theorem stepNineTakesTheData : Obligations.StepNineTakesTheData := by
  refine fun s hs hcap => ⟨fun hk => ?_, fun hk => ⟨fun b0 b1 b2 b3 b4 b5 b6 rest hc => ?_, fun hc => ?_⟩⟩
  · exact exec_adv_next (by simp [hk]) (performStep_takeWrite hs hk)
  · have hlong : 7 ≤ s.chrx.length := by simp [hc]
    rw [exec_adv_next (by simp [hk]) (performStep_takeRead_of_long hs hk hcap hlong)]
    simp only [hc]
    rfl
  · rw [exec_adv_next (by simp [hk]) (performStep_takeRead hs hk), stepTakeRead_of_short hc]
    rfl

/-! ### The transition table and the faults -/

/-- R171: the STEP columns of the transition table. -/
def tableMoves : List (BitVec 6 × BitVec 6) :=
  [(0, 1), (1, 2), (2, 3), (2, 40), (2, 2), (3, 4), (4, 5), (5, 6), (5, 40), (5, 5), (6, 7), (6, 30), (7, 8), (8, 9),
    (8, 40), (8, 8), (9, 10), (9, 30), (10, 20), (20, 0), (30, 0), (40, 0)]

theorem poll_stepIdx_mem (next : BitVec 6) (code : Diag) (s : State) :
    (s.poll next code).stepIdx ∈ [next, 40, s.stepIdx] := by
  obtain ⟨-, e⟩ | ⟨-, -, e⟩ | ⟨-, -, e⟩ := poll_cases next code s <;> simp [e]

/-- A step makes one move of the table. -/
theorem AdvStep.mem_tableMoves {s t : State} (h : AdvStep s t) : (s.stepIdx, t.stepIdx) ∈ tableMoves := by
  have hpoll {here next : BitVec 6} {code : Diag} (hs : s.stepIdx = here)
      (hrows : ∀ k ∈ [next, 40, here], (here, k) ∈ tableMoves) :
      (s.stepIdx, (s.poll next code).stepIdx) ∈ tableMoves := by
    subst hs
    exact hrows _ (poll_stepIdx_mem next code s)
  cases h with
  | pollOpcode hs | pollBody hs | pollData hs => exact hpoll hs (by decide)
  | checkAck hs =>
    obtain ⟨-, -, e⟩ | ⟨-, e⟩ | ⟨-, -, e⟩ := stepCheckAck_cases s <;> simp [e, hs, tableMoves]
  | takeRead hs =>
    obtain ⟨-, e⟩ | ⟨-, e⟩ := stepTakeRead_cases s <;> simp [e, hs, tableMoves]
  | _ => simp [*, tableMoves]

/-- Settles O27, step by step: a poll has three ways on, a check two, every other step one. -/
theorem advMakesOneTableMove : Obligations.AdvMakesOneTableMove := by
  intro s t hk h
  rw [exec_adv hk] at h
  exact (performStep_cases h).mem_tableMoves

theorem performStep_of_illegal {s : State} (h : s.stepIdx ∉ legalSteps) : s.performStep = .fault .unreachableStep := by
  unfold State.performStep
  split
  case h_15 => rfl
  all_goals
    rename_i hs
    exact absurd (hs ▸ by decide) h

theorem withFrameLength_of_unreachable {s : State} (h10 : s.flen ≠ 10) (h14 : s.flen ≠ 14)
    (act : Nat → State → State) : s.withFrameLength act = .fault .unreachableFrameLength := by
  obtain ⟨hlen, -⟩ | ⟨-, -, e⟩ := withFrameLength_cases act s
  · exact absurd hlen (not_or.mpr ⟨h10, h14⟩)
  · exact e

/-- Settles O28: no step is numbered otherwise, and the sending steps ask for the frame's length. -/
theorem unreachableStatesFault : Obligations.UnreachableStatesFault := by
  refine ⟨fun s hk h => (exec_adv hk).trans (performStep_of_illegal h), fun s hk hs h10 h14 => ?_⟩
  rw [exec_adv hk]
  obtain hs | hs | hs := hs
  · exact (performStep_sendBody hs).trans (withFrameLength_of_unreachable h10 h14 _)
  · exact (performStep_sendAck hs).trans (withFrameLength_of_unreachable h10 h14 _)
  · exact (performStep_finalAck hs).trans (withFrameLength_of_unreachable h10 h14 _)

/-! ### Who reads DLEXP -/

/-- The state with another elapsed bit. -/
def State.withExpiry (expired : Bool) (s : State) : State := { s with dlexp := expired }

@[simp] theorem State.withExpiry_fkind (expired : Bool) (s : State) : (s.withExpiry expired).fkind = s.fkind := rfl

theorem stepCheckAck_withExpiry (expired : Bool) (s : State) :
    (s.withExpiry expired).stepCheckAck = s.stepCheckAck.withExpiry expired := by
  simp only [State.stepCheckAck, apply_ite (State.withExpiry expired)]
  rfl

theorem stepTakeRead_withExpiry (expired : Bool) (s : State) :
    (s.withExpiry expired).stepTakeRead = s.stepTakeRead.withExpiry expired := by
  simp only [State.stepTakeRead, apply_ite (State.withExpiry expired)]
  rfl

/-- R177: a step that does not poll does the same whatever DLEXP is, but for what DLEXP is afterwards. -/
theorem performStep_withExpiry {s t : State} (h2 : s.stepIdx ≠ 2) (h5 : s.stepIdx ≠ 5) (h8 : s.stepIdx ≠ 8)
    (h : s.performStep = .next t) (expired : Bool) :
    ∃ u, (s.withExpiry expired).performStep = .next u ∧ u.withExpiry t.dlexp = t := by
  have hsend {act : Nat → State → State}
      (hact : ∀ {u : State}, u.stepIdx = s.stepIdx → u.performStep = u.withFrameLength act) :
      (s.withExpiry expired).performStep = .next (act s.flen.toNat (s.withExpiry expired)).accept := by
    have hlen : s.flen = 10 ∨ s.flen = 14 := flen_of_withFrameLength_next ((hact (u := s) rfl).symm.trans h)
    exact (hact (u := s.withExpiry expired) rfl).trans (withFrameLength_of_flen (s := s.withExpiry expired) hlen act)
  cases performStep_cases h with
  | start hs => exact ⟨_, performStep_start hs, rfl⟩
  | sendOpcode hs => exact ⟨_, performStep_sendOpcode hs, rfl⟩
  | pollOpcode hs => exact absurd hs h2
  | discard hs => exact ⟨_, performStep_discard hs, rfl⟩
  | sendBody hs => exact ⟨_, hsend fun hu => performStep_sendBody (hu.trans hs), rfl⟩
  | pollBody hs => exact absurd hs h5
  | checkAck hs => exact ⟨_, performStep_checkAck hs, by rw [stepCheckAck_withExpiry]; rfl⟩
  | sendAck hs => exact ⟨_, hsend fun hu => performStep_sendAck (hu.trans hs), rfl⟩
  | pollData hs => exact absurd hs h8
  | takeRead hs hk =>
    refine ⟨_, performStep_take hs, ?_⟩
    rw [State.withExpiry_fkind, if_pos hk, stepTakeRead_withExpiry]
    rfl
  | takeWrite hs hk =>
    refine ⟨_, performStep_take hs, ?_⟩
    rw [State.withExpiry_fkind, if_neg hk]
    rfl
  | finalAck hs => exact ⟨_, hsend fun hu => performStep_finalAck (hu.trans hs), rfl⟩
  | success hs => exact ⟨_, performStep_success hs, rfl⟩
  | failed hs => exact ⟨_, performStep_failed hs, rfl⟩
  | timedOut hs => exact ⟨_, performStep_timedOut hs, rfl⟩

/-- Settles O37: a refused ADV does not look at DLEXP, and an accepted one only when it polls. -/
theorem expiryIsReadOnlyByPollSteps : Obligations.ExpiryIsReadOnlyByPollSteps := by
  intro s t expired h2 h5 h8 h
  by_cases hk : s.fkind = .none
  · cases (exec_adv_of_noframe hk).symm.trans h
    exact ⟨_, exec_adv_of_noframe hk, rfl⟩
  · rw [exec_adv hk] at h
    obtain ⟨u, hu, e⟩ := performStep_withExpiry h2 h5 h8 h expired
    exact ⟨u, (exec_adv (s := s.withExpiry expired) hk).trans hu, e⟩

/-! ### Reset in the middle of a transaction -/

/-- Settles O41: a reset leaves no frame built. -/
theorem resetAbortsTheTransaction : Obligations.ResetAbortsTheTransaction := fun s first rest =>
  ⟨s.blockReset, s.blockReset.arrive first rest, _, rfl, rfl, rfl, rfl, rfl, rfl, rfl, exec_adv_of_noframe rfl, rfl⟩

end Sys2Proof.Machine
end

section
/-! The result word of a read-transaction (42_transaction.md R163, R175; 43_status_decoder.md R205): the masked sum puts
byte 6 beside the low seven bits of byte 5. -/

namespace Sys2Proof.Machine

theorem zext16_and (b : Byte) (mask : Half) : zext16 b &&& mask = zext16 (b &&& mask.setWidth 8) := by
  apply BitVec.eq_of_getLsbD_eq
  intro i hi
  simp only [zext16, BitVec.getLsbD_and, BitVec.truncate_eq_setWidth, BitVec.getLsbD_setWidth]
  grind

theorem zext16_toNat (b : Byte) : (zext16 b).toNat = b.toNat := BitVec.toNat_setWidth_of_le (by decide)

theorem zext16_shiftLeft_toNat (b : Byte) : (zext16 b <<< 8).toNat = b.toNat <<< 8 := by
  have hb := b.isLt
  rw [BitVec.toNat_shiftLeft, zext16_toNat, Nat.shiftLeft_eq]
  omega

theorem zext16_shiftLeft_or (hi lo : Byte) : (zext16 hi <<< 8) ||| zext16 lo = hi ++ lo := by
  apply BitVec.eq_of_toNat_eq
  rw [BitVec.toNat_or, zext16_shiftLeft_toNat, zext16_toNat, BitVec.toNat_append]

theorem zext16_shiftLeft_add (hi lo : Byte) : (zext16 hi <<< 8) + zext16 lo = hi ++ lo := by
  apply BitVec.eq_of_toNat_eq
  have hsum : (hi ++ lo : Half).toNat = hi.toNat <<< 8 + lo.toNat := by
    rw [BitVec.toNat_append, Nat.shiftLeft_add_eq_or_of_lt lo.isLt]
  have hlt := (hi ++ lo : Half).isLt
  rw [BitVec.toNat_add, zext16_shiftLeft_toNat, zext16_toNat, ← hsum, Nat.mod_eq_of_lt hlt]

theorem masked_byte5 (byte5 : Byte) : zext16 byte5 &&& Config.statusMask = zext16 (byte5 &&& 0x7F) :=
  zext16_and byte5 Config.statusMask

/-- R175: byte 6 whole, over bits 6 to 0 of byte 5. -/
theorem resultWord_eq_append (byte5 byte6 : Byte) : resultWord byte5 byte6 = byte6 ++ (byte5 &&& 0x7F) := by
  rw [resultWord, masked_byte5, zext16_shiftLeft_add]

theorem resultWord_le (byte5 byte6 : Byte) : (resultWord byte5 byte6).toNat ≤ 0xFF7F := by
  have h5 : (byte5 &&& 0x7F).toNat ≤ 0x7F := Nat.and_le_right
  have h6 := byte6.isLt
  rw [resultWord_eq_append, BitVec.toNat_append, ← Nat.shiftLeft_add_eq_or_of_lt (by omega), Nat.shiftLeft_eq]
  omega

theorem and_0x7F_eq_append (b : Byte) : b &&& 0x7F = 0#1 ++ b.extractLsb' 0 7 := by
  revert b
  decide

/-- R205: bit 7 of byte 5 is lost. -/
theorem resultWord_or_bit7 (byte5 byte6 : Byte) : resultWord (byte5 ||| 0x80) byte6 = resultWord byte5 byte6 := by
  have hmask : (byte5 ||| 0x80) &&& 0x7F = byte5 &&& 0x7F := by
    rw [BitVec.and_comm, BitVec.and_or_distrib_left]
    simp [BitVec.and_comm]
  rw [resultWord_eq_append, hmask, ← resultWord_eq_append]

/-- R205: a word with bit 7 clear is the result word of its own two bytes. -/
theorem resultWord_extractLsb' {w : Half} (h7 : w.extractLsb' 0 8 &&& 0x7F = w.extractLsb' 0 8) :
    resultWord (w.extractLsb' 0 8) (w.extractLsb' 8 8) = w := by
  rw [resultWord_eq_append, h7, hi_append_lo]

/-- R205: the words of the decode table have bit 7 clear. -/
theorem tableWords_bit7 : ∀ w ∈ ([0x0140, 0x0121, 0x0123, 0x0137, 0x0117, 0x0108] : List Half),
    w.extractLsb' 0 8 &&& 0x7F = w.extractLsb' 0 8 := by simp

/-- Settles O29: with the mask's upper half out of reach, the sum puts two bytes side by side. -/
theorem resultWordArithmetic : Obligations.ResultWordArithmetic := by
  refine ⟨fun byte5 byte6 => ⟨?_, ?_, ?_, resultWord_le byte5 byte6, resultWord_bit7 byte5 byte6⟩, by decide, by decide,
    fun w hw => ?_⟩
  · change zext16 byte5 &&& 0x417F = zext16 byte5 &&& 0x007F
    rw [zext16_and, zext16_and]
    rfl
  · change (zext16 byte6 <<< 8) + (zext16 byte5 &&& Config.statusMask) =
      (zext16 byte6 <<< 8) ||| (zext16 byte5 &&& Config.statusMask)
    rw [masked_byte5, zext16_shiftLeft_add, zext16_shiftLeft_or]
  · rw [resultWord_eq_append, and_0x7F_eq_append]
    exact (BitVec.cast_eq ..).symm.trans BitVec.append_assoc.symm
  · have hword := resultWord_extractLsb' (tableWords_bit7 w hw)
    exact ⟨hword, (resultWord_or_bit7 _ _).trans hword⟩

end Sys2Proof.Machine
end

section
/-! Whole transactions on a listed schedule (42_transaction.md R172 to R176; 70_reset_and_hazards.md R259): the three
exchanges of a prompt device, the failures, and the restart. -/

namespace Sys2Proof.Machine

/-! ### Performing a schedule -/

/-- The host's move that issues ADV. -/
abbrev advMove : Input := .command advWord

theorem perform_cons {move : Input} {later : List Input} {s t : State} (h : react move s = .next t) :
    perform (move :: later) s = perform later t := by
  rw [perform, h]

theorem perform_adv {later : List Input} {s t : State} (h : exec .adv s = .next t) :
    perform (advMove :: later) s = perform later t :=
  perform_cons ((react_advWord s).trans h)

theorem perform_step {later : List Input} {s t : State} (hk : s.fkind ≠ .none) (h : s.performStep = .next t.accept) :
    perform (advMove :: later) s = perform later t.accept :=
  perform_adv ((exec_adv hk).trans h)

theorem perform_adv_adv {s t u : State} (h : exec .adv s = .next t) (h' : exec .adv t = .next u) :
    perform [advMove, advMove] s = .next u :=
  (perform_adv h).trans (perform_adv h')

/-! ### One exchange: send, arrival, poll -/

/-- R168: with data ready a poll step goes on, whatever DLEXP is. -/
theorem exec_adv_of_ready {here next : BitVec 6} {code : Diag} (hpoll : (here, next, code) ∈ pollSteps) {s : State}
    (hk : s.fkind ≠ .none) (hs : s.stepIdx = here) (hdr : s.dr = true) :
    exec .adv s = .next { s with stepIdx := next, cerr := .ok } := by
  rw [pollStepsWaitForReadyOrDeadline s hk here next code hpoll hs, if_pos hdr]

/-- R168: with no data ready an elapsed deadline ends the transaction. -/
theorem exec_adv_of_expired {here next : BitVec 6} {code : Diag} (hpoll : (here, next, code) ∈ pollSteps) {s : State}
    (hk : s.fkind ≠ .none) (hs : s.stepIdx = here) (hdr : s.dr = false) (hexp : s.dlexp = true) :
    exec .adv s = .next { s with diag := code, stepIdx := 40, cerr := .ok } := by
  rw [pollStepsWaitForReadyOrDeadline s hk here next code hpoll hs, if_neg (by simp [hdr]), if_pos hexp]

/-- A sending step, one arrival, and the ADV that polls for it. -/
theorem perform_exchange {poll drain : BitVec 6} {code : Diag} (hpoll : (poll, drain, code) ∈ pollSteps) {s : State}
    (hk : s.fkind ≠ .none) {bytes : List Byte} (hsend : s.performStep = .next ((s.send bytes).arm.goto poll).accept)
    (first : Byte) (rest : List Byte) (later : List Input) :
    perform (advMove :: .arrival first rest :: advMove :: later) s =
      perform later { ((s.send bytes).arm.arrive first rest).goto drain with cerr := .ok } := by
  rw [perform_step hk hsend, perform_cons rfl, State.accept_eq]
  exact perform_adv (exec_adv_of_ready hpoll hk rfl rfl)

/-! ### A prompt device -/

/-- What a transaction of the frame in `s` has come to in `t`: STEP = `k` with no failure, `sent` sent, and `queued` in
CHRX. -/
structure State.Reached (s : State) (k : BitVec 6) (sent queued : List Byte) (t : State) : Prop where
  stepIdx : t.stepIdx = k
  diag : t.diag = .none
  txlog : t.txlog = s.txlog ++ sent
  chrx : t.chrx = queued
  rxcap : t.rxcap = s.rxcap
  fb : t.fb = s.fb
  flen : t.flen = s.flen
  fkind : t.fkind = s.fkind

namespace State.Reached
variable {s t : State} {k : BitVec 6} {sent queued : List Byte}

theorem built (h : s.Reached k sent queued t) (hk : s.fkind ≠ .none) : t.fkind ≠ .none := h.fkind ▸ hk

theorem fbAt_eq (h : s.Reached k sent queued t) (i : Nat) : t.fbAt i = s.fbAt i := by rw [State.fbAt, h.fb, State.fbAt]

theorem withLength (h : s.Reached k sent queued t) (hlen : s.flen = 10 ∨ s.flen = 14) (act : Nat → State → State) :
    t.withFrameLength act = .next (act s.flen.toNat t).accept := by
  rw [withFrameLength_of_flen (h.flen ▸ hlen), h.flen]

theorem start (hk : s.fkind ≠ .none) (hs : s.stepIdx = 0) :
    ∃ t, (∀ later, perform (advMove :: later) s = perform later t) ∧ s.Reached 1 [] s.chrx t :=
  ⟨_, fun _ => perform_step hk (performStep_start hs), rfl, rfl, by simp, rfl, rfl, rfl, rfl, rfl⟩

/-- Steps 1 to 3, 4 to 6 and 7 to 9, with one arrival for the poll. -/
theorem exchange (h : s.Reached k sent queued t) (hk : s.fkind ≠ .none) {poll drain : BitVec 6} {code : Diag}
    (hpoll : (poll, drain, code) ∈ pollSteps) {bytes : List Byte}
    (hsend : t.performStep = .next ((t.send bytes).arm.goto poll).accept) (first : Byte) (rest : List Byte) :
    ∃ u, (∀ later, perform (advMove :: .arrival first rest :: advMove :: later) t = perform later u) ∧
      s.Reached drain (sent ++ bytes) (queued ++ first :: rest) u := by
  refine ⟨_, perform_exchange hpoll (h.built hk) hsend first rest, ?_⟩
  exact { h with
    stepIdx := rfl
    txlog := by simp [h.txlog]
    chrx := by simp [h.chrx] }

theorem discard (h : s.Reached 3 sent queued t) (hk : s.fkind ≠ .none) :
    ∃ u, (∀ later, perform (advMove :: later) t = perform later u) ∧ s.Reached 4 sent [] u :=
  ⟨_, fun _ => perform_step (h.built hk) (performStep_discard h.stepIdx), { h with stepIdx := rfl, chrx := rfl }⟩

theorem checkAck {rest : List Byte} (h : s.Reached 6 sent (Config.ackMarker :: rest) t) (hk : s.fkind ≠ .none)
    (hcap : 7 ≤ s.rxcap.toNat) :
    ∃ u, (∀ later, perform (advMove :: later) t = perform later u) ∧ s.Reached 7 sent [] u := by
  have hcap' : 0 < t.rxcap.toNat := by rw [h.rxcap]; omega
  refine ⟨_, fun _ => perform_step (h.built hk) (performStep_checkAck h.stepIdx), ?_⟩
  rw [stepCheckAck_of_cons hcap' h.chrx, if_pos rfl]
  exact { h with stepIdx := rfl, chrx := rfl }

theorem takeWrite (h : s.Reached 9 sent queued t) (hk : s.fkind = .write) :
    ∃ u, (∀ later, perform (advMove :: later) t = perform later u) ∧ s.Reached 10 sent [] u ∧ u.dr = false :=
  ⟨_, fun _ => perform_step (h.built (by simp [hk])) (performStep_takeWrite h.stepIdx (h.fkind.trans hk)),
    { h with stepIdx := rfl, chrx := rfl }, rfl⟩

theorem takeRead (h : s.Reached 9 sent queued t) (hk : s.fkind = .read) (hcap : 7 ≤ s.rxcap.toNat)
    (hlong : 7 ≤ queued.length) : ∃ u, (∀ later, perform (advMove :: later) t = perform later u) ∧
      s.Reached 10 sent [] u ∧ u.dr = false ∧ u.result = resultWord queued[5] queued[6] := by
  obtain rfl := h.chrx
  refine ⟨_, fun _ => perform_step (h.built (by simp [hk])) (performStep_takeRead_of_long h.stepIdx (h.fkind.trans hk)
    (h.rxcap ▸ hcap) hlong), { h with stepIdx := rfl, chrx := rfl }, rfl, rfl⟩

/-- Steps 10 and 20: the second acknowledgement and the end. -/
theorem finish (h : s.Reached 10 sent queued t) (hk : s.fkind ≠ .none) (hlen : s.flen = 10 ∨ s.flen = 14) :
    ∃ u, perform [advMove, advMove] t = .next u ∧ s.Reached 0 (sent ++ [s.fbAt (s.flen.toNat - 2)]) queued u ∧
      u.outcome = .success ∧ u.cerr = .ok ∧ u.dr = t.dr ∧ u.result = t.result := by
  refine ⟨_, (perform_step (h.built hk) ((performStep_finalAck h.stepIdx).trans (h.withLength hlen _))).trans
    (perform_step (h.built hk) (performStep_success rfl)), ?_, rfl, rfl, rfl, rfl⟩
  exact { h with stepIdx := rfl, txlog := by simp [h.txlog, h.fbAt_eq] }

/-- R172, steps 0 to 8: with one arrival for each poll, and an acknowledgement in the second, nine ADVs reach step 9
with the third arrival in CHRX and all but the last byte sent. -/
theorem prompt (hk : s.fkind ≠ .none) (hlen : s.flen = 10 ∨ s.flen = 14) (hs : s.stepIdx = 0)
    (hcap : 7 ≤ s.rxcap.toNat) (a c : Byte) (as bs cs : List Byte) : ∃ t,
    (∀ later, perform (advMove :: advMove :: .arrival a as :: advMove :: advMove :: advMove :: .arrival 0x4F bs ::
      advMove :: advMove :: advMove :: .arrival c cs :: advMove :: later) s = perform later t) ∧
    s.Reached 9 ([s.fbAt 0] ++ s.fbSlice 1 (s.flen.toNat - 3) ++ [s.fbAt (s.flen.toNat - 2)]) (c :: cs) t := by
  obtain ⟨t1, p1, h1⟩ := start hk hs
  obtain ⟨t3, p3, h3⟩ := h1.exchange hk (.head _) (performStep_sendOpcode h1.stepIdx) a as
  obtain ⟨t4, p4, h4⟩ := h3.discard hk
  obtain ⟨t6, p6, h6⟩ := h4.exchange hk (.tail _ (.head _))
    ((performStep_sendBody h4.stepIdx).trans (h4.withLength hlen _)) 0x4F bs
  obtain ⟨t7, p7, h7⟩ := h6.checkAck hk hcap
  obtain ⟨t9, p9, h9⟩ := h7.exchange hk (.tail _ (.tail _ (.head _)))
    ((performStep_sendAck h7.stepIdx).trans (h7.withLength hlen _)) c cs
  refine ⟨t9, fun later => by rw [p1, p3, p4, p6, p7, p9], ?_⟩
  rw [h1.fbAt_eq, h7.fbAt_eq, State.fbSlice, h4.fb] at h9
  exact h9

end State.Reached

/-- R173: the slices a transaction sends are the frame up to its acknowledgement marker, which is sent twice. -/
theorem sent_slices_eq (s : State) (n : Nat) (hn : n + 1 < 14) :
    s.txlog ++ ([s.fbAt 0] ++ s.fbSlice 1 n ++ [s.fbAt (n + 1)] ++ [s.fbAt (n + 1)]) =
      s.txlog ++ s.fb.toList.take (n + 1) ++ [s.fb[n + 1], s.fb[n + 1]] := by
  have hfirst : s.fbAt 0 = s.fb.toList[0] := byteAt_of_lt (by simp)
  have hhead : s.fb.toList = s.fbAt 0 :: s.fb.toList.drop 1 := by
    rw [hfirst]
    exact List.drop_eq_getElem_cons (i := 0) (by simp)
  have hslices : s.fb.toList.take (n + 1) = s.fbAt 0 :: s.fbSlice 1 n := by
    rw [hhead, List.take_succ_cons]
    rfl
  rw [hslices, fbAt_eq s (n + 1), dif_pos hn]
  simp

/-- Settles O56: to step 9 as any prompt transaction, where a write does not look at what it drains. -/
theorem promptWriteSucceedsInTwelveAdvs : Obligations.PromptWriteSucceedsInTwelveAdvs := by
  intro s a c as bs cs hkind hlen hs hcap adv
  have hk : s.fkind ≠ .none := by simp [hkind]
  obtain ⟨t9, p9, h9⟩ := State.Reached.prompt hk (.inr hlen) hs hcap a c as bs cs
  obtain ⟨t10, p10, h10, hdr⟩ := h9.takeWrite hkind
  obtain ⟨t, p, h, hout, hcerr, hdr', -⟩ := h10.finish hk (.inr hlen)
  refine ⟨t, by rw [p9, p10, p], hout, h.stepIdx, h.diag, hcerr, h.fb, h.chrx, hdr'.trans hdr, ?_⟩
  rw [h.txlog, hlen]
  exact sent_slices_eq s 11 (by decide)

/-- Settles O57: to step 9 as any prompt transaction, where seven bytes are enough for the decode. -/
theorem promptReadSucceedsInTwelveAdvs : Obligations.PromptReadSucceedsInTwelveAdvs := by
  intro s a c0 c1 c2 c3 c4 c5 c6 as bs cs hkind hlen hs hcap adv
  have hk : s.fkind ≠ .none := by simp [hkind]
  obtain ⟨t9, p9, h9⟩ := State.Reached.prompt hk (.inl hlen) hs hcap a c0 as bs (c1 :: c2 :: c3 :: c4 :: c5 :: c6 :: cs)
  obtain ⟨t10, p10, h10, hdr, hresult⟩ := h9.takeRead hkind hcap (by simp)
  obtain ⟨t, p, h, hout, hcerr, hdr', hresult'⟩ := h10.finish hk (.inl hlen)
  refine ⟨t, by rw [p9, p10, p], hout, h.stepIdx, h.diag, hcerr, h.fb, h.chrx, hdr'.trans hdr,
    hresult'.trans hresult, ?_⟩
  rw [h.txlog, hlen]
  exact sent_slices_eq s 7 (by decide)

/-! ### Failures -/

theorem expire_dlexp_of_armed {s : State} (harm : s.dlarm = true) : s.expire.dlexp = true := by
  obtain ⟨-, -, e⟩ | ⟨hn, e⟩ := expire_cases s <;> rw [e]
  simpa [harm] using hn

/-- Settles O58: the detecting step jumps with its code, and the terminal step keeps it. -/
theorem failuresAreRecorded : Obligations.FailuresAreRecorded := by
  intro s hk hcap adv
  refine ⟨fun here code hcodes hs hdr harm => ?_, fun hs first rest hc hne => ?_, fun hs hc => ?_,
    fun hs hkind hc => ?_⟩
  · have hpolls : (here, code) ∈ pollSteps.map fun row => (row.1, row.2.2) := hcodes
    obtain ⟨⟨_, next, _⟩, hpoll, hrow⟩ := List.mem_map.mp hpolls
    cases hrow
    have hk' : s.expire.fkind ≠ .none := by simpa using hk
    have hjump := exec_adv_of_expired hpoll hk' (by simpa using hs) (by simpa using hdr) (expire_dlexp_of_armed harm)
    exact ⟨_, (perform_cons rfl).trans (perform_adv_adv hjump (exec_adv_next hk' (performStep_timedOut rfl))),
      rfl, rfl, rfl⟩
  · have hjump := (stepSixChecksTheFirstByte s hk hs hcap).2 first rest hc
    rw [if_neg hne] at hjump
    exact ⟨_, perform_adv_adv hjump (exec_adv_next hk (performStep_failed rfl)), rfl, rfl, rfl⟩
  · have hjump := (stepSixChecksTheFirstByte s hk hs hcap).1 hc
    exact ⟨_, perform_adv_adv hjump (exec_adv_next hk (performStep_failed rfl)), rfl, rfl, rfl⟩
  · have hjump := ((stepNineTakesTheData s hs hcap).2 hkind).2 hc
    exact ⟨_, perform_adv_adv hjump (exec_adv_next hk (performStep_failed rfl)), rfl, rfl, rfl⟩

/-! ### The next transaction -/

/-- R165 to R167: a terminal step records a terminal outcome, rests and disarms the deadline. -/
theorem exec_adv_of_terminal {s : State} (hk : s.fkind ≠ .none)
    (hs : s.stepIdx = 20 ∨ s.stepIdx = 30 ∨ s.stepIdx = 40) : ∃ o : TxnOutcome, o.terminal = true ∧
      exec .adv s = .next { s with outcome := o, stepIdx := 0, dlarm := false, dlexp := false, cerr := .ok } := by
  obtain ⟨h20, h30, h40⟩ := terminalStepsRecordTheOutcome s hk
  obtain hs | hs | hs := hs
  · exact ⟨.success, rfl, h20 hs⟩
  · exact ⟨.failed, rfl, h30 hs⟩
  · exact ⟨.timedOut, rfl, h40 hs⟩

/-- Settles O59: no step writes the frame, and from rest two ADVs start it over. -/
theorem advAfterTerminalRestarts : Obligations.AdvAfterTerminalRestarts := by
  intro s hk hs adv
  obtain ⟨o, ho, hend⟩ := exec_adv_of_terminal hk hs
  exact ⟨_, _, perform_adv hend, rfl, rfl, ho,
    perform_adv_adv (exec_adv_next hk (performStep_start rfl)) (exec_adv_next hk (performStep_sendOpcode rfl)),
    rfl, rfl, rfl, rfl⟩

end Sys2Proof.Machine
end

section
/-! Every transaction ends (60_exceptions.md R242): a measure falls with every accepted ADV that does not wait, and
under fairness none waits for ever. -/

namespace Sys2Proof.Machine

/-! ### One move of a transaction in progress -/

/-- How many of a transaction's steps are left at STEP = `k`, at most, the poll's waiting not counted: one at a terminal
step, and before it one for each step on the way to success. -/
def stepsLeft (k : BitVec 6) : Nat := if 10 < k.toNat then 1 else 12 - k.toNat

theorem tableMoves_stepsLeft : ∀ row ∈ tableMoves, row.1 ≠ 0 → row.2 ≠ 0 → row.2 ≠ row.1 →
    stepsLeft row.2 < stepsLeft row.1 := by simp [tableMoves, stepsLeft]

theorem tableMoves_wait : ∀ row ∈ tableMoves, row.2 = row.1 → row.1 = 2 ∨ row.1 = 5 ∨ row.1 = 8 := by
  simp [tableMoves]

/-- R168: an elapsed deadline keeps a poll from waiting. -/
theorem poll_waits {s : State} {next : BitVec 6} {code : Diag} (hnext : next ≠ s.stepIdx) (h40 : 40 ≠ s.stepIdx)
    (h : (s.poll next code).stepIdx = s.stepIdx) : s.dlexp = false := by
  obtain ⟨-, e⟩ | ⟨-, -, e⟩ | ⟨-, hexp, -⟩ := poll_cases next code s
  · rw [e] at h
    exact absurd h hnext
  · rw [e] at h
    exact absurd h h40
  · exact hexp

/-- A step that leaves STEP as it is polls, and its deadline has not elapsed. -/
theorem AdvStep.waits {s t : State} (h : AdvStep s t) (hsame : t.stepIdx = s.stepIdx) :
    (s.stepIdx = 2 ∨ s.stepIdx = 5 ∨ s.stepIdx = 8) ∧ s.dlexp = false := by
  have hpoll := tableMoves_wait _ h.mem_tableMoves hsame
  refine ⟨hpoll, ?_⟩
  cases h with
  | pollOpcode hs | pollBody hs | pollData hs => exact poll_waits (by simp [hs]) (by simp [hs]) hsame
  | _ => simp [*] at hpoll

/-- The move leaves the transaction where it is: it does not take back an elapsed deadline, and if it is an ADV, the
transaction waits at a poll whose deadline has not elapsed. -/
structure Waits (move : Input) (s t : State) : Prop where
  stepIdx : t.stepIdx = s.stepIdx
  dlexp : s.dlexp = true → t.dlexp = true
  adv : move = .command advWord → (s.stepIdx = 2 ∨ s.stepIdx = 5 ∨ s.stepIdx = 8) ∧ s.dlexp = false

theorem expire_waits (s : State) : Waits .expiry s s.expire where
  stepIdx := s.expire_stepIdx
  dlexp := fun hexp => by obtain ⟨-, -, e⟩ | ⟨-, e⟩ := expire_cases s <;> simp [e, hexp]
  adv := fun hadv => Input.noConfusion hadv

/-- A move of a transaction in progress ends it, brings it nearer to its end, or leaves it where it is. -/
theorem react_progress {move : Input} {s t : State} (hinv : s.Inv) (hs : s.inProgress) (hreset : move ≠ .reset)
    (h : react move s = .next t) :
    (t.stepIdx = 0 ∧ t.outcome.terminal = true) ∨
    (t.inProgress ∧ (stepsLeft t.stepIdx < stepsLeft s.stepIdx ∨ Waits move s t)) := by
  have hk : s.fkind ≠ .none := fun hnone => hs (hinv.frame_built hnone).1
  cases react_effect h with
  | arrival first rest => exact .inr ⟨hs, .inr ⟨rfl, id, fun hadv => Input.noConfusion hadv⟩⟩
  | expiry => exact .inr ⟨by simpa [State.inProgress] using hs, .inr (expire_waits s)⟩
  | reset => exact absurd rfl hreset
  | adv _ hstep =>
    obtain ⟨hne, -⟩ | hend := hstep.progress
    · refine .inr ⟨hne, ?_⟩
      by_cases hsame : t.stepIdx = s.stepIdx
      · obtain ⟨hpoll, hexp⟩ := hstep.waits hsame
        exact .inr ⟨hsame, fun e => absurd (hexp.symm.trans e) (by decide), fun _ => ⟨hpoll, hexp⟩⟩
      · exact .inl (tableMoves_stepsLeft _ hstep.mem_tableMoves hs hne hsame)
    · exact .inl hend
  | quiet hn hkeep =>
    refine .inr ⟨fun h0 => hs (hkeep.stepIdx ▸ h0), .inr ⟨hkeep.stepIdx, fun e => hkeep.dlexp.trans e, fun hadv => ?_⟩⟩
    exact absurd ⟨hadv, hk, rfl⟩ (hn s.stepIdx)

/-! ### Endless runs -/

section
variable {at_ : Nat → State} {move : Nat → Input} (hrun : IsRun at_ move)
include hrun

theorem IsRun.inv (hinv : (at_ 0).Inv) (k : Nat) : (at_ k).Inv := by
  induction k with
  | zero => exact hinv
  | succ k ih => exact react_inv ih (hrun.next k)

/-- A transaction that never ends is in progress for ever. -/
theorem IsRun.inProgress (hinv : (at_ 0).Inv) (hreset : ∀ k, move k ≠ .reset) (hs : (at_ 0).inProgress)
    (hend : ∀ k, ¬((at_ k).stepIdx = 0 ∧ (at_ k).outcome.terminal = true)) (k : Nat) : (at_ k).inProgress := by
  induction k with
  | zero => exact hs
  | succ k ih =>
    obtain hend' | ⟨hs', -⟩ := react_progress (hrun.inv hinv k) ih (hreset k) (hrun.next k)
    · exact absurd hend' (hend (k + 1))
    · exact hs'

/-- A transaction that never ends comes to a point from which on it only waits. -/
theorem IsRun.eventually_waits (hinv : (at_ 0).Inv) (hreset : ∀ k, move k ≠ .reset) (hs : (at_ 0).inProgress)
    (hend : ∀ k, ¬((at_ k).stepIdx = 0 ∧ (at_ k).outcome.terminal = true)) :
    ∃ n, ∀ m, n ≤ m → Waits (move m) (at_ m) (at_ (m + 1)) := by
  have hstep (k : Nat) : stepsLeft (at_ (k + 1)).stepIdx < stepsLeft (at_ k).stepIdx ∨
      Waits (move k) (at_ k) (at_ (k + 1)) := by
    obtain hend' | ⟨-, hstep⟩ := react_progress (hrun.inv hinv k) (hrun.inProgress hinv hreset hs hend k) (hreset k)
      (hrun.next k)
    · exact absurd hend' (hend (k + 1))
    · exact hstep
  have hanti : Antitone fun k => stepsLeft (at_ k).stepIdx := antitone_nat_of_succ_le fun k => by
    obtain hlt | hw := hstep k
    · exact hlt.le
    · rw [hw.stepIdx]
  obtain ⟨n, hn⟩ := WellFoundedLT.antitone_chain_condition hanti
  refine ⟨n, fun m hm => (hstep m).resolve_left (Nat.not_lt_of_le (le_of_eq ?_))⟩
  exact (hn m hm).symm.trans (hn (m + 1) (by omega))

/-- Under fairness no transaction only waits: its poll's deadline elapses, and the next ADV does not wait. -/
theorem IsRun.not_waits_forever (hinv : (at_ 0).Inv) (hhost : HostKeepsAdvancing move) (hfair : FairExpiry at_ move)
    (n : Nat) : ¬∀ m, n ≤ m → Waits (move m) (at_ m) (at_ (m + 1)) := by
  intro hwaits
  have hsame : ∀ m, n ≤ m → (at_ m).stepIdx = (at_ n).stepIdx := fun m hm => by
    induction m, hm using Nat.le_induction with
    | base => rfl
    | succ m hm ih => rw [(hwaits m hm).stepIdx, ih]
  obtain ⟨a, ha, hadv⟩ := hhost n
  obtain ⟨e, he, hexpiry⟩ := hfair n
  have harm : (at_ e).dlarm = true := (hrun.inv hinv e).polls_armed (by
    rw [hsame e he, ← hsame a ha]
    exact ((hwaits a ha).adv hadv).1)
  have helapsed : (at_ (e + 1)).dlexp = true := by
    obtain hdisabled | hmove := hexpiry
    · exact (hwaits e he).dlexp (by simpa [harm] using hdisabled)
    · have hnext := hrun.next e
      rw [hmove] at hnext
      rw [← Host.Outcome.next.inj hnext]
      exact expire_dlexp_of_armed harm
  have hstays : ∀ b, e + 1 ≤ b → (at_ b).dlexp = true := fun b hb => by
    induction b, hb using Nat.le_induction with
    | base => exact helapsed
    | succ b hb ih => exact (hwaits b (by omega)).dlexp ih
  obtain ⟨b, hb, hadv'⟩ := hhost (e + 1)
  have hnot : (at_ b).dlexp = false := ((hwaits b (by omega)).adv hadv').2
  exact Bool.false_ne_true (hnot.symm.trans (hstays b hb))

end

/-- Settles O60: a transaction that never ended would only wait from some point on, and fairness does not let it. -/
theorem everyTransactionEnds : Obligations.EveryTransactionEnds := by
  intro at_ move hinv hrun hreset hhost hfair hs
  by_contra hend
  obtain ⟨n, hn⟩ := hrun.eventually_waits hinv hreset hs (not_exists.mp hend)
  exact hrun.not_waits_forever hinv hhost hfair n hn

end Sys2Proof.Machine
end

section
/-! What DEC writes (43_status_decoder.md R200, R201), as a whole next state. -/

namespace Sys2Proof.Machine

/-- R201 row by row: the two status words of next step 3 are one row of the table. -/
theorem decodeStatus_eq_table (status : Half) :
    decodeStatus status = if status = 0x0140 then 2 else if status = 0x0121 ∨ status = 0x0123 then 3
      else if status = 0x0137 then 4 else if status = 0x0117 then 7 else if status = 0x0108 then 8 else 1 := by
  rw [decodeStatus, ite_or]

/-- Settles O12: DEC has no refusal, and the code it writes is the table's. -/
theorem decWritesTheNextStep : Obligations.DecWritesTheNextStep := by
  intro status s
  rw [exec, execDec, State.accept_eq, decodeStatus_eq_table]

end Sys2Proof.Machine
end

section
/-! Command errors and events (60_exceptions.md R220 to R223, R230 to R233): a command word is refused, as the first of R222's
checks that it fails says, or accepted with CERR = 0; an event has the one effect its rule gives it. -/

namespace Sys2Proof.Machine

/-! ### The status a command word earns -/

/-- R222, case by case: the check that a command word fails is the first that fails, and an accepted one passes all. -/
theorem CommandMove.cerr_eq {c : CommandWord} {s t : State} (h : CommandMove c s t) :
    t.cerr = statusOf (fieldsOf c) s := by
  cases h with
  | illegal hw => simp [statusOf, hw]
  | range hw hrange => simp [statusOf, hw, hrange]
  | busy hw hop hs =>
    obtain ⟨ho, hpos⟩ | ho | ho := hop
    · simpa [statusOf, hw, ho, Nat.not_lt.mpr hpos] using hs
    · simpa [statusOf, hw, ho] using hs
    · simpa [statusOf, hw, ho] using hs
  | noframe hw ho _ hk => simp [statusOf, hw, ho, hk]
  | wrbuf hw ho hpos hs => simp [statusOf, hw, ho, hs, Nat.not_lt.mpr hpos]
  | crc16 hw ho hn => simp [statusOf, hw, ho, Nat.not_lt.mpr hn]
  | buildr hw ho hs | buildw hw ho hs => simp [statusOf, hw, ho, hs]
  | adv hw ho _ hk hstep => simp [statusOf, hw, ho, hk, hstep.cerr_eq]
  | dec hw ho => simp [statusOf, hw, ho]

/-- R220, R221: a command word is refused and has no effect but the error's, or it is accepted and records none. -/
theorem CommandMove.refused_or_accepted {c : CommandWord} {s t : State} (h : CommandMove c s t) :
    (∃ code, code ≠ .ok ∧ t = s.raiseCmdError code) ∨ (t.cerr = .ok ∧ t.cerrs = s.cerrs) := by
  cases h with
  | illegal | range | busy | noframe => exact .inl ⟨_, by decide, rfl⟩
  | adv _ _ _ _ hstep => exact .inr ⟨hstep.cerr_eq, hstep.cerrs_eq⟩
  | wrbuf | crc16 | buildr | buildw | dec => exact .inr ⟨rfl, State.accept_cerrs _⟩

/-- Settles O14: every way a command word can end has the status that R222's chain of checks gives. -/
theorem commandStatusFollowsThePriority : Obligations.CommandStatusFollowsThePriority :=
  ⟨fun _ _ _ h => (react_command_cases h).cerr_eq, rfl, rfl, rfl, rfl, rfl⟩

/-- Settles O15: an accepted command leaves CERR = 0, so the command was refused. -/
theorem refusedCommandHasNoOtherEffect : Obligations.RefusedCommandHasNoOtherEffect := by
  intro c s t h herr
  obtain ⟨code, -, rfl⟩ | ⟨hok, -⟩ := (react_command_cases h).refused_or_accepted
  · rfl
  · exact absurd hok herr

/-- Settles O16: a refused command sets CERRS and an accepted one keeps it; of the events only reset writes either. -/
theorem errorRecordIsSticky : Obligations.ErrorRecordIsSticky := by
  intro move s t h
  cases move with
  | command c =>
    obtain ⟨code, hcode, rfl⟩ | ⟨hok, hkeep⟩ := (react_command_cases h).refused_or_accepted
    · simp [hcode]
    · simp [hok, hkeep]
  | arrival first rest => cases h; exact ⟨rfl, rfl⟩
  | expiry => cases h; exact ⟨s.expire_cerr, s.expire_cerrs⟩
  | reset => cases h; exact ⟨rfl, rfl⟩

/-! ### The events -/

/-- R231: two arrivals are one with the bytes of both. -/
theorem arrive_arrive (s : State) (first second : Byte) (rest more : List Byte) :
    (s.arrive first rest).arrive second more = s.arrive first (rest ++ second :: more) := by
  simp [State.arrive]

/-- Settles O38: a second arrival appends to what the first has left in CHRX, and finds DR set. -/
theorem arrivalsAccumulate : Obligations.ArrivalsAccumulate := by
  intro s first second rest more
  refine ⟨rfl, ?_⟩
  rw [perform_cons rfl, perform_cons rfl, arrive_arrive]
  rfl

/-- Settles O39, by whether the expiry is enabled. -/
theorem expirySetsTheElapsedBit : Obligations.ExpirySetsTheElapsedBit := by
  intro s
  rw [react]
  obtain ⟨harm, hexp, e⟩ | ⟨hdisabled, e⟩ := expire_cases s
  · rw [e, if_pos ⟨harm, hexp⟩]
  · rw [e, if_neg hdisabled]

end Sys2Proof.Machine
end
